-- ==== Sys2Proof/Word.lean ====
section
/-! DEFINITION. Word.lean: the two fields of an event selection and the event code that joins them (rules R11, R100
to R103, R119).

An event number and a unit mask are 8-bit unsigned values; the event code `EC` is notation of the spec for the pair
in one number, not a register layout. -/

namespace Sys2Proof

/-- An 8-bit unsigned value: an event number or a unit mask (rules R101 and R102). -/
abbrev Byte := BitVec 8

/-- An event code, `EC = Umask ‖ EventNum` (rules R11 and R103): bits 7:0 are the event number, bits 15:8 the unit
mask. -/
abbrev EventCode := BitVec 16

/-- The event code of a pair (rule R11: `a ‖ b` has `a` in the more significant bits). -/
def eventCode (e u : Byte) : EventCode := u ++ e

/-- `EC[7:0]` (rule R11). -/
def EventCode.eventNum (c : EventCode) : Byte := c.extractLsb' 0 8

/-- `EC[15:8]` (rule R11). -/
def EventCode.umask (c : EventCode) : Byte := c.extractLsb' 8 8

end Sys2Proof
end

