-- ==== Sys2Proof/Config.lean ====
section
/-! DEFINITION. Config.lean: what an implementation fixes (rule R9 and 93_implementation_defined.md) and the free
values, which nothing fixes.

The parameters are plain data: `State.params` carries them, no step changes them, and a statement about every state is
a statement about every choice of them. The free values are opaque constants: nothing in Lean can evaluate them. -/

namespace Sys2Proof

/-- The four states of a cache line (rule R41). -/
inductive LineState where
  | m | e | s | i
  deriving DecidableEq, Repr

/-- The types of snoop response (rules R16, R79 and R284): CLEAN, HIT, HITM; the source does not list the types of Table
18-11, so others are possible. -/
inductive SnoopResp where
  | clean
  | hit
  | hitm
  | other (n : Nat)
  deriving DecidableEq, Repr

/-- The types of snoop between the two cores that CMP_SNOOP distinguishes (rule R285): for a read request of the other
core (CMP2S) and for a read for ownership (CMP2I); the source does not list the types of Table 18-12, so others are
possible. -/
inductive SnoopKind where
  | read
  | readForOwnership
  | other (n : Nat)
  deriving DecidableEq, Repr

/-- The clocks a row can mean (rule R14). -/
inductive ClockKind where
  | core | bus | ref
  deriving DecidableEq, Repr

/-- Settings of the core qualifier (rule R16): SELF and BOTH_CORE. -/
inductive CoreSetting where
  | self | bothCore
  deriving DecidableEq, Repr

/-- Settings of the bus-agent qualifier (rule R16): THIS_AGENT and ALL_AGENTS. -/
inductive AgentSetting where
  | thisAgent | allAgents
  deriving DecidableEq, Repr

/-- Settings of the prefetch qualifier (rule R16): demand requests, L2 hardware prefetch requests, or both. -/
inductive PrefetchSetting where
  | demand | hwPrefetch | both
  deriving DecidableEq, Repr

/-- Settings of the cache-line-state qualifier (rule R16): which of M, E, S, I are selected. -/
structure MesiSetting where
  m : Bool
  e : Bool
  s : Bool
  i : Bool
  deriving DecidableEq, Repr

/-- The setting I_STATE (rule R16). -/
def MesiSetting.iState : MesiSetting := ⟨false, false, false, true⟩

/-- The setting MESI, which selects all four states (rule R16). -/
def MesiSetting.all : MesiSetting := ⟨true, true, true, true⟩

/-- One of the tables T18_7 to T18_12 (rule R105): the bits of the unit mask its field occupies, and for each setting
the bits that setting contributes. -/
structure QTable (σ : Type) where
  field : Byte
  rows : List (σ × Byte)
  deriving DecidableEq, Repr

/-- Where the two fields of an event-select register lie in a register word: parameter EVTSEL_LAYOUT (rule R9, D4). -/
structure EvtselLayout where
  eventLsb : Nat
  umaskLsb : Nat
  deriving DecidableEq, Repr

/-- The implementation parameters of rule R9. N_FIXED is 3, the three fixed-function counters of Table A-2. -/
structure Params where
  /-- N_GP (D3). -/
  nGp : Nat
  /-- CTR_WIDTH (D2). -/
  ctrWidth : Nat
  /-- N_CORES, 1 or 2 (D18). -/
  nCores : Nat
  /-- APPROX_ERR (D7). -/
  approxErr : Nat
  /-- EVTSEL_LAYOUT (D4). -/
  layout : EvtselLayout
  /-- T18_7 (D6). -/
  core : QTable CoreSetting
  /-- T18_8 (D6). -/
  agent : QTable AgentSetting
  /-- T18_9 (D6). -/
  prefetch : QTable PrefetchSetting
  /-- T18_10 (D6). -/
  mesi : QTable MesiSetting
  /-- T18_11 (D6): a setting is the list of the response types it selects. -/
  snoopResp : QTable (List SnoopResp)
  /-- T18_12 (D6): a setting is the list of the snoop types it selects. -/
  snoopType : QTable (List SnoopKind)
  /-- UMASK_L1D_ALL_REF (D14). -/
  umaskAllRef : Byte
  /-- UNNAMED_CYCLE_CLOCK (D8). -/
  unnamedClock : ClockKind
  /-- MAX_L1D_OUTSTANDING_MISSES (D21). -/
  maxL1dMisses : Nat
  /-- ROB_LIMIT (D21). -/
  robLimit : Nat
  /-- RS_LIMIT (D21). -/
  rsLimit : Nat
  /-- LOAD_LIMIT (D21). -/
  loadLimit : Nat
  /-- STORE_LIMIT (D21). -/
  storeLimit : Nat
  /-- CACHE_LINE_BYTES (D21). -/
  lineBytes : Nat
  /-- SMALL_PAGE_BYTES (D21). -/
  smallPage : Nat
  /-- LARGE_PAGE_BYTES (D21). -/
  largePage : Nat
  /-- THERMAL_TRIP_THRESHOLD (D21). -/
  tripThreshold : Nat
  /-- BUS_TO_REF_RATIO (D21, rule R564), a fraction: `refCycles` reference cycles go with `busCycles` bus cycles. -/
  refCycles : Nat
  busCycles : Nat
  /-- BUS_FREQUENCY (D21). -/
  busFrequency : Nat
  /-- CTR_ACCESS_PRIV (D17): carried, never checked (rule R521). -/
  ctrAccessPriv : Nat
  /-- The addresses of `PMC[i]` and of `EVTSEL[i]`, which the spec's map of registers does not fix (rule R84, D4). -/
  pmcAddrs : List Nat
  evtselAddrs : List Nat
  deriving DecidableEq, Repr

/-- The bits a table gives to a setting: `encode_q` of rule R105. -/
def QTable.encode {σ : Type} [DecidableEq σ] (t : QTable σ) (v : σ) : Option Byte :=
  (t.rows.find? (·.1 = v)).map (·.2)

/-- The setting a unit mask selects in a table's field: `decode_q` of rule R105; none where it accepts no setting. -/
def QTable.decode {σ : Type} (t : QTable σ) (u : Byte) : Option σ :=
  (t.rows.find? (·.2 = u &&& t.field)).map (·.1)

/-- A table of a qualifier is well formed: every setting's bits lie in the field, and no two settings share bits. -/
def QTable.wf {σ : Type} [DecidableEq σ] (t : QTable σ) : Bool :=
  t.rows.all (fun r => r.2 &&& ~~~t.field = 0) && decide (t.rows.map (·.2)).Nodup && decide (t.rows.map (·.1)).Nodup

/-- Two fields occupy disjoint bits (rule R105). -/
def disjoint (a b : Byte) : Bool := a &&& b = 0

/-- What the spec demands of the parameters: rule R9 and D21 (positive numbers, N_CORES), rule R105 (the fields of the
qualifiers of one row are disjoint), rule R107 (the facts the source settles about the bits: bit 4 lies outside the
field of the cache line states), rule R564 (the ratio is at least 1), D14 (UMASK_L1D_ALL_REF names one row only), and
rule R84 (a register address names one register). -/
def Params.wf (p : Params) : Bool :=
  decide (1 ≤ p.nGp) && decide (1 ≤ p.ctrWidth) && (p.nCores == 1 || p.nCores == 2) &&
  p.core.wf && p.agent.wf && p.prefetch.wf && p.mesi.wf && p.snoopResp.wf && p.snoopType.wf &&
  disjoint p.core.field p.prefetch.field && disjoint p.core.field p.mesi.field &&
  disjoint p.prefetch.field p.mesi.field && disjoint p.core.field p.agent.field &&
  disjoint p.agent.field p.snoopResp.field && disjoint p.core.field p.snoopType.field &&
  (p.core.encode .bothCore).isSome && (p.agent.encode .thisAgent).isSome && (p.agent.encode .allAgents).isSome &&
  (p.prefetch.encode .hwPrefetch).isSome && (p.prefetch.encode .both).isSome &&
  (match p.core.encode .self, p.prefetch.encode .demand, p.mesi.encode .iState, p.mesi.encode .all with
    | some a, some b, some c, some d => (a ||| b ||| c) == 0x41 && (a ||| b ||| d) == 0x4F
    | _, _, _, _ => false) &&
  disjoint p.mesi.field 0x10 &&
  (p.umaskAllRef ≠ 0x02) &&
  decide (1 ≤ p.maxL1dMisses) && decide (1 ≤ p.robLimit) && decide (1 ≤ p.rsLimit) && decide (1 ≤ p.loadLimit) &&
  decide (1 ≤ p.storeLimit) && decide (1 ≤ p.lineBytes) && decide (1 ≤ p.smallPage) &&
  decide (p.smallPage < p.largePage) && decide (1 ≤ p.tripThreshold) && decide (1 ≤ p.busCycles) &&
  decide (p.busCycles ≤ p.refCycles) && decide (1 ≤ p.busFrequency) &&
  decide (p.pmcAddrs.length = p.nGp) && decide (p.evtselAddrs.length = p.nGp) &&
  decide ([0x309, 0x30A, 0x30B] ++ p.pmcAddrs ++ p.evtselAddrs).Nodup

/-- A subset of M, E, S, I and the bits it sets in the family's Table 18-10: bit 3 M, bit 2 E, bit 1 S, bit 0 I. -/
def familyMesiRow (n : Nat) : MesiSetting × Byte :=
  (⟨n.testBit 3, n.testBit 2, n.testBit 1, n.testBit 0⟩, BitVec.ofNat 8 n)

/-- The parameters at reset. PRESUMED (unsafe), log entry 1: the values that 93_implementation_defined.md lists from
general knowledge (N_GP 2, CTR_WIDTH 40, line 64, small page 4096, the six qualifier tables, the layout, the addresses
of the registers). DESIGN CHOICE (unsafe), log entry 2: the values nobody lists. No statement of the model rests on any
of them. -/
def Params.family : Params where
  nGp := 2
  ctrWidth := 40
  nCores := 2
  approxErr := 0
  layout := ⟨0, 8⟩
  core := ⟨0xC0, [(.self, 0x40), (.bothCore, 0xC0)]⟩
  agent := ⟨0x20, [(.thisAgent, 0x00), (.allAgents, 0x20)]⟩
  prefetch := ⟨0x30, [(.both, 0x30), (.hwPrefetch, 0x10), (.demand, 0x00)]⟩
  mesi := ⟨0x0F, (List.range 15).map fun n => familyMesiRow (n + 1)⟩
  snoopResp := ⟨0x0B, [([.clean], 0x01), ([.hit], 0x02), ([.hit, .clean], 0x03), ([.hitm], 0x08),
    ([.hitm, .clean], 0x09), ([.hitm, .hit], 0x0A), ([.hitm, .hit, .clean], 0x0B)]⟩
  snoopType := ⟨0x03, [([.read], 0x01), ([.readForOwnership], 0x02), ([.read, .readForOwnership], 0x03)]⟩
  umaskAllRef := 0x10
  unnamedClock := .core
  maxL1dMisses := 1
  robLimit := 2
  rsLimit := 1
  loadLimit := 1
  storeLimit := 1
  lineBytes := 64
  smallPage := 4096
  largePage := 2097152
  tripThreshold := 1
  refCycles := 1
  busCycles := 1
  busFrequency := 1
  ctrAccessPriv := 0
  pmcAddrs := [0xC1, 0xC2]
  evtselAddrs := [0x186, 0x187]

/-- The points at which the source gives an event its effect and leaves one value of it unstated. Each names the rule
that records the silence. -/
inductive OpenPoint where
  /-- What another bus agent does, under SELF and ALL_AGENTS (rule R267). -/
  | otherAgentUnderSelf
  /-- BUSQ_EMPTY under BOTH_CORE with one queue empty and the other not (rule R288). -/
  | oneBusQueueEmpty
  /-- CPU_CLK_UNHALTED.NO_OTHER on a processor with one core (rule R249). -/
  | noOtherCore
  /-- MEM_LOAD_RETIRED.L1D_LINE_MISS of a blocked load (rule R370). -/
  | blockedL1dLineMiss
  /-- MEM_LOAD_RETIRED.L2_LINE_MISS of a blocked load (rule R372). -/
  | blockedL2LineMiss
  /-- Whether L2_LD counts a locked access (rule R237). -/
  | lockedL2Read
  /-- Whether L2_LD counts an L1 data prefetch request (rules R237 and R240). -/
  | l1dPrefetchIsL2Read
  /-- Whether L2_LD counts an ITLB miss access, which reaches the L2 as a request of another kind (rules R77 and
  R237). -/
  | itlbMissIsL2Read
  /-- Whether L2_LD counts an access of the page walk after a DTLB miss, of whose kind of L2 request the source says
  nothing (rules R77 and R237). -/
  | dtlbMissIsL2Read
  /-- Whether L2_ST counts the store of a locked access (rule R238). -/
  | lockedL2Store
  /-- Whether the L2_RQSTS rows count an ITLB miss access, which reaches the L2 as a request of another kind (rules
  R77 and R240). -/
  | itlbMissAccess
  /-- Whether the L2_RQSTS rows count an access of the page walk after a DTLB miss, of whose kind of L2 request the
  source says nothing (rules R77 and R240). -/
  | dtlbMissAccess
  /-- Whether BR_IND_EXEC and BR_IND_MISSP_EXEC count a RET (rule R305). -/
  | retIsIndirect
  /-- Whether BR_IND_EXEC and BR_IND_MISSP_EXEC count an indirect CALL (rule R305). -/
  | callIsIndirect
  /-- Which of BR_TKN_BUBBLE_1 and BR_TKN_BUBBLE_2 a one-cycle penalty goes to (rule R313). -/
  | bubbleOne
  /-- Whether an implicit writeback is a burst transaction (rules R274 and R281). -/
  | implicitWritebackIsBurst
  /-- Whether L1D_PEND_MISS counts the outstanding misses of software prefetches of cacheable memory (rule R259). -/
  | softwarePrefetchMiss
  /-- Whether L1D_PREFETCH.REQUESTS counts a request that is submitted again after it was rejected (rule R266). -/
  | resubmittedPrefetch
  /-- Whether data that a load has just brought in was generated by an execution unit other than the floating point and
  the SIMD ones (rules R227 and R228). -/
  | loadedDataBypass
  /-- Which of the two lines of a split access gives the line state (rules R250 to R252). -/
  | splitLineState
  /-- Whether a load that touches two lines is one to the line of a software prefetch that fetches one of them only
  (rule R265). -/
  | splitLoadHitsPrefetch
  /-- Whether a slow length decode uses the slow decoder for 6 cycles or for 5 beyond the usual 1 (rule R299). -/
  | slowDecodeFive
  /-- Whether a writeback asks for a snoop response (rules R81 and R560). -/
  | writebackNeedsSnoop
  deriving DecidableEq, Repr

/-- A free value (log entry 5): the answer at an open point in the n-th moment of the history. Nothing constrains it. -/
opaque Config.unstated : OpenPoint → Nat → Bool

/-- A free value (log entry 4): what a read answers of a counter about which nothing is known (rules R43, R112, R113).
-/
opaque Config.anyValue : Nat → Nat

/-- A free value (log entry 6): the offset from which `approx` picks a value inside its bound (rule R13, D7). -/
opaque Config.approxPick : Nat → Nat

/-- A free value (log entry 17): whether a load of one or two bytes, so many bytes behind the first byte of a store and
of so many bytes, is "aligned to" a store of so many bytes (rule R202). -/
opaque Config.alignedToStore : (distance loadSize storeSize : Nat) → Bool

/-- Two free values (log entry 23): what a frequency and a voltage are reduced to after a thermal trip (rule R31). -/
opaque Config.reducedFrequency : Nat → Nat
opaque Config.reducedVoltage : Nat → Nat

end Sys2Proof
end

