-- ==== Sys2Proof/Syntax.lean ====
section
/-! DEFINITION. Syntax.lean: the instructions of this hardware, which are its countable events (00_scope.md).

One constructor per row of spec/opcode_table.json, in the order of the table: 7 architectural names (Table A-1), 3
events of fixed-function counters (Table A-2) and the 205 rows of Table A-3. A row whose unit mask is composed from
qualifier fields (rule R105) carries the unit mask as its one operand; no other row has an operand (rule R100). -/

namespace Sys2Proof

/-- The countable events, one constructor per row of spec/opcode_table.json. -/
inductive Instr where
  /-- UnHalted Core Cycles: 3CH/00H, second name of rule R247 (rule R140). -/
  | archUnhaltedCoreCycles
  /-- UnHalted Reference Cycles: 3CH/01H, second name of rule R248 (rule R141). -/
  | archUnhaltedReferenceCycles
  /-- Instruction Retired: C0H/00H, second name of rule R334 (rule R142). -/
  | archInstructionRetired
  /-- LLC Reference: 2EH/4FH, second name of rule R242 (rule R143). -/
  | archLlcReference
  /-- LLC Misses: 2EH/41H, second name of rule R241 (rule R144). -/
  | archLlcMisses
  /-- Branch Instruction Retired: C4H/00H, second name of rule R348 (rule R145). -/
  | archBranchInstructionRetired
  /-- Branch Misses Retired: C5H/00H, second name of rule R354 (rule R146). -/
  | archBranchMissesRetired
  /-- Instr_Retired.Any: fixed-function counter at 309H (rule R150). -/
  | fixedInstrRetiredAny
  /-- CPU_CLK_UNHALTED.CORE: fixed-function counter at 30AH (rule R151). -/
  | fixedCpuClkUnhaltedCore
  /-- CPU_CLK_UNHALTED.REF: fixed-function counter at 30BH (rule R152). -/
  | fixedCpuClkUnhaltedRef
  /-- LOAD_BLOCK.STA: 03H/02H (rule R200). -/
  | loadBlockSta
  /-- LOAD_BLOCK.STD: 03H/04H (rule R201). -/
  | loadBlockStd
  /-- LOAD_BLOCK.OVERLAP_STORE: 03H/08H (rule R202). -/
  | loadBlockOverlapStore
  /-- LOAD_BLOCK.UNTIL_RETIRE: 03H/10H (rule R203). -/
  | loadBlockUntilRetire
  /-- LOAD_BLOCK.L1D: 03H/20H (rule R204). -/
  | loadBlockL1d
  /-- SB_DRAIN_CYCLES: 04H/01H (rule R205). -/
  | sbDrainCycles
  /-- STORE_BLOCK_ORDER: 04H/02H (rule R206). -/
  | storeBlockOrder
  /-- STORE_BLOCK_SNOOP: 04H/08H (rule R207). -/
  | storeBlockSnoop
  /-- SEGMENT_REG_LOADS: 06H/00H (rule R208). -/
  | segmentRegLoads
  /-- SSE_PRE_EXEC.NTA: 07H/00H (rule R209). -/
  | ssePreExecNta
  /-- SSE_PRE_EXEC.L1: 07H/01H (rule R210). -/
  | ssePreExecL1
  /-- SSE_PRE_EXEC.L2: 07H/02H (rule R211). -/
  | ssePreExecL2
  /-- SSE_PRE_EXEC.STORES: 07H/03H (rule R212). -/
  | ssePreExecStores
  /-- DTLB_MISSES.ANY: 08H/01H (rule R213). -/
  | dtlbMissesAny
  /-- DTLB_MISSES.MISS_LD: 08H/02H (rule R214). -/
  | dtlbMissesMissLd
  /-- DTLB_MISSES.L0_MISS_LD: 08H/04H (rule R215). -/
  | dtlbMissesL0MissLd
  /-- DTLB_MISSES.MISS_ST: 08H/08H (rule R216). -/
  | dtlbMissesMissSt
  /-- MEMORY_DISAMBIGUATION.RESET: 09H/01H (rule R217). -/
  | memoryDisambiguationReset
  /-- MEMORY_DISAMBIGUATION.SUCCESS: 09H/02H (rule R218). -/
  | memoryDisambiguationSuccess
  /-- PAGE_WALKS.COUNT: 0CH/01H (rule R219). -/
  | pageWalksCount
  /-- PAGE_WALKS.CYCLES: 0CH/02H (rule R220). -/
  | pageWalksCycles
  /-- FP_COMP_OPS_EXE: 10H/00H (rule R221). -/
  | fpCompOpsExe
  /-- FP_ASSIST: 11H/00H (rule R222). -/
  | fpAssist
  /-- MUL: 12H/00H (rule R223). -/
  | mul
  /-- DIV: 13H/00H (rule R224). -/
  | div
  /-- CYCLES_DIV_BUSY: 14H/00H (rule R225). -/
  | cyclesDivBusy
  /-- IDLE_DURING_DIV: 18H/00H (rule R226). -/
  | idleDuringDiv
  /-- DELAYED_BYPASS_FP: 19H/00H (rule R227). -/
  | delayedBypassFp
  /-- DELAYED_BYPASS.SIMD: 19H/01H (rule R228). -/
  | delayedBypassSimd
  /-- DELAYED_BYPASS.LOAD: 19H/02H (rule R229). -/
  | delayedBypassLoad
  /-- L2_ADS.(Core): event 21H, unit mask composed (rule R230). -/
  | l2Ads (u : Byte)
  /-- L2_DBUS_BUSY_RD.(Core): event 23H, unit mask composed (rule R231). -/
  | l2DbusBusyRd (u : Byte)
  /-- L2_LINES_IN.(Core, Prefetch): event 24H, unit mask composed (rule R232). -/
  | l2LinesIn (u : Byte)
  /-- L2_M_LINES_IN.(Core): event 25H, unit mask composed (rule R233). -/
  | l2MLinesIn (u : Byte)
  /-- L2_LINES_OUT.(Core, Prefetch): event 26H, unit mask composed (rule R234). -/
  | l2LinesOut (u : Byte)
  /-- L2_M_LINES_OUT.(Core, Prefetch): event 27H, unit mask composed (rule R235). -/
  | l2MLinesOut (u : Byte)
  /-- L2_IFETCH.(Core, Cache Line State): event 28H, unit mask composed (rule R236). -/
  | l2Ifetch (u : Byte)
  /-- L2_LD.(Core, Prefetch, Cache Line State): event 29H, unit mask composed (rule R237). -/
  | l2Ld (u : Byte)
  /-- L2_ST.(Core, Cache Line State): event 2AH, unit mask composed (rule R238). -/
  | l2St (u : Byte)
  /-- L2_LOCK.(Core, Cache Line State): event 2BH, unit mask composed (rule R239). -/
  | l2Lock (u : Byte)
  /-- L2_RQSTS.(Core, Prefetch, Cache Line State): event 2EH, unit mask composed (rule R240). -/
  | l2Rqsts (u : Byte)
  /-- L2_RQSTS.SELF.DEMAND.I_STATE: 2EH/41H (rule R241). -/
  | l2RqstsSelfDemandIState
  /-- L2_RQSTS.SELF.DEMAND.MESI: 2EH/4FH (rule R242). -/
  | l2RqstsSelfDemandMesi
  /-- L2_REJECT_BUSQ.(Core, Prefetch, Cache Line State): event 30H, unit mask composed (rule R243). -/
  | l2RejectBusq (u : Byte)
  /-- L2_NO_REQ.(Core): event 32H, unit mask composed (rule R244). -/
  | l2NoReq (u : Byte)
  /-- EIST_TRANS: 3AH/00H (rule R245). -/
  | eistTrans
  /-- THERMAL_TRIP: 3BH/C0H (rule R246). -/
  | thermalTrip
  /-- CPU_CLK_UNHALTED.CORE_P: 3CH/00H (rule R247). -/
  | cpuClkUnhaltedCoreP
  /-- CPU_CLK_UNHALTED.BUS: 3CH/01H (rule R248). -/
  | cpuClkUnhaltedBus
  /-- CPU_CLK_UNHALTED.NO_OTHER: 3CH/02H (rule R249). -/
  | cpuClkUnhaltedNoOther
  /-- L1D_CACHE_LD.(Cache Line State): event 40H, unit mask composed (rule R250). -/
  | l1dCacheLd (u : Byte)
  /-- L1D_CACHE_ST.(Cache Line State): event 41H, unit mask composed (rule R251). -/
  | l1dCacheSt (u : Byte)
  /-- L1D_CACHE_LOCK.(Cache Line State): event 42H, unit mask composed (rule R252). -/
  | l1dCacheLock (u : Byte)
  /-- L1D_CACHE_LOCK_DURATION: 42H/10H (rule R253). -/
  | l1dCacheLockDuration
  /-- L1D_ALL_REF: 43H/10H (rule R254). -/
  | l1dAllRef
  /-- L1D_ALL_CACHE_REF: 43H/02H (rule R255). -/
  | l1dAllCacheRef
  /-- L1D_REPL: 45H/0FH (rule R256). -/
  | l1dRepl
  /-- L1D_M_REPL: 46H/00H (rule R257). -/
  | l1dMRepl
  /-- L1D_M_EVICT: 47H/00H (rule R258). -/
  | l1dMEvict
  /-- L1D_PEND_MISS: 48H/00H (rule R259). -/
  | l1dPendMiss
  /-- L1D_SPLIT.LOADS: 49H/01H (rule R260). -/
  | l1dSplitLoads
  /-- L1D_SPLIT.STORES: 49H/02H (rule R261). -/
  | l1dSplitStores
  /-- SSE_PRE_MISS.NTA: 4BH/00H (rule R262). -/
  | ssePreMissNta
  /-- SSE_PRE_MISS.L1: 4BH/01H (rule R263). -/
  | ssePreMissL1
  /-- SSE_PRE_MISS.L2: 4BH/02H (rule R264). -/
  | ssePreMissL2
  /-- LOAD_HIT_PRE: 4CH/00H (rule R265). -/
  | loadHitPre
  /-- L1D_PREFETCH.REQUESTS: 4EH/10H (rule R266). -/
  | l1dPrefetchRequests
  /-- BUS_REQUEST_OUTSTANDING.(Core and Bus Agents): event 60H, unit mask composed (rule R267). -/
  | busRequestOutstanding (u : Byte)
  /-- BUS_BNR_DRV.(Bus Agents): event 61H, unit mask composed (rule R268). -/
  | busBnrDrv (u : Byte)
  /-- BUS_DRDY_CLOCKS.(Bus Agents): event 62H, unit mask composed (rule R269). -/
  | busDrdyClocks (u : Byte)
  /-- BUS_LOCK_CLOCKS.(Core and Bus Agents): event 63H, unit mask composed (rule R270). -/
  | busLockClocks (u : Byte)
  /-- BUS_DATA_RCV.(Core): event 64H, unit mask composed (rule R271). -/
  | busDataRcv (u : Byte)
  /-- BUS_TRANS_BRD.(Core and Bus Agents): event 65H, unit mask composed (rule R272). -/
  | busTransBrd (u : Byte)
  /-- BUS_TRANS_RFO.(Core and Bus Agents): event 66H, unit mask composed (rule R273). -/
  | busTransRfo (u : Byte)
  /-- BUS_TRANS_WB.(Core and Bus Agents): event 67H, unit mask composed (rule R274). -/
  | busTransWb (u : Byte)
  /-- BUS_TRANS_IFETCH.(Core and Bus Agents): event 68H, unit mask composed (rule R275). -/
  | busTransIfetch (u : Byte)
  /-- BUS_TRANS_INVALID.(Core and Bus Agents): event 69H, unit mask composed (rule R276). -/
  | busTransInvalid (u : Byte)
  /-- BUS_TRANS_PWR.(Core and Bus Agents): event 6AH, unit mask composed (rule R277). -/
  | busTransPwr (u : Byte)
  /-- BUS_TRANS_P.(Core and Bus Agents): event 6BH, unit mask composed (rule R278). -/
  | busTransP (u : Byte)
  /-- BUS_TRANS_IO.(Core and Bus Agents): event 6CH, unit mask composed (rule R279). -/
  | busTransIo (u : Byte)
  /-- BUS_TRANS_DEF.(Core and Bus Agents): event 6DH, unit mask composed (rule R280). -/
  | busTransDef (u : Byte)
  /-- BUS_TRANS_BURST.(Core and Bus Agents): event 6EH, unit mask composed (rule R281). -/
  | busTransBurst (u : Byte)
  /-- BUS_TRANS_MEM.(Core and Bus Agents): event 6FH, unit mask composed (rule R282). -/
  | busTransMem (u : Byte)
  /-- BUS_TRANS_ANY.(Core and Bus Agents): event 70H, unit mask composed (rule R283). -/
  | busTransAny (u : Byte)
  /-- EXT_SNOOP.(Bus Agents, Snoop Response): event 77H, unit mask composed (rule R284). -/
  | extSnoop (u : Byte)
  /-- CMP_SNOOP.(Core, Snoop Type): event 78H, unit mask composed (rule R285). -/
  | cmpSnoop (u : Byte)
  /-- BUS_HIT_DRV.(Bus Agents): event 7AH, unit mask composed (rule R286). -/
  | busHitDrv (u : Byte)
  /-- BUS_HITM_DRV.(Bus Agents): event 7BH, unit mask composed (rule R287). -/
  | busHitmDrv (u : Byte)
  /-- BUSQ_EMPTY.(Core): event 7DH, unit mask composed (rule R288). -/
  | busqEmpty (u : Byte)
  /-- SNOOP_STALL_DRV.(Core and Bus Agents): event 7EH, unit mask composed (rule R289). -/
  | snoopStallDrv (u : Byte)
  /-- BUS_IO_WAIT.(Core): event 7FH, unit mask composed (rule R290). -/
  | busIoWait (u : Byte)
  /-- L1L_READS: 80H/00H (rule R291). -/
  | l1lReads
  /-- L1L_MISSES: 81H/00H (rule R292). -/
  | l1lMisses
  /-- ITLB.SMALL_MISS: 82H/02H (rule R293). -/
  | itlbSmallMiss
  /-- ITLB.LARGE_MISS: 82H/10H (rule R294). -/
  | itlbLargeMiss
  /-- ITLB.FLUSH: 82H/40H (rule R295). -/
  | itlbFlush
  /-- ITLB.MISSES: 82H/12H (rule R296). -/
  | itlbMisses
  /-- INST_QUEUE.FULL: 83H/02H (rule R297). -/
  | instQueueFull
  /-- CYCLES_L1L_MEM_STALLED: 86H/00H (rule R298). -/
  | cyclesL1lMemStalled
  /-- ILD_STALL: 87H/00H (rule R299). -/
  | ildStall
  /-- BR_INST_EXEC: 88H/00H (rule R300). -/
  | brInstExec
  /-- BR_MISP_EXEC: 89H/00H (rule R301). -/
  | brMispExec
  /-- BR_BAC_MISP_EXEC: 8AH/00H (rule R302). -/
  | brBacMispExec
  /-- BR_CND_EXEC: 8BH/00H (rule R303). -/
  | brCndExec
  /-- BR_CND_MISSP_EXEC: 8CH/00H (rule R304). -/
  | brCndMisspExec
  /-- BR_IND_EXEC: 8DH/00H (rule R305). -/
  | brIndExec
  /-- BR_IND_MISSP_EXEC: 8EH/00H (rule R306). -/
  | brIndMisspExec
  /-- BR_RET_EXEC: 8FH/00H (rule R307). -/
  | brRetExec
  /-- BR_RET_MISSP_EXEC: 90H/00H (rule R308). -/
  | brRetMisspExec
  /-- BR_RET_BAC_MISSP_EXEC: 91H/00H (rule R309). -/
  | brRetBacMisspExec
  /-- BR_CALL_EXEC: 92H/00H (rule R310). -/
  | brCallExec
  /-- BR_CALL_MISSP_EXEC: 93H/00H (rule R311). -/
  | brCallMisspExec
  /-- BR_IND_CALL_EXEC: 94H/00H (rule R312). -/
  | brIndCallExec
  /-- BR_TKN_BUBBLE_1: 97H/00H (rule R313). -/
  | brTknBubble1
  /-- BR_TKN_BUBBLE_2: 98H/00H (rule R314). -/
  | brTknBubble2
  /-- RS_UOPS_DISPATCHED: A0H/00H (rule R315). -/
  | rsUopsDispatched
  /-- RS_UOPS_DISPATCHED.PORT0: A1H/01H (rule R316). -/
  | rsUopsDispatchedPort0
  /-- RS_UOPS_DISPATCHED.PORT1: A1H/02H (rule R317). -/
  | rsUopsDispatchedPort1
  /-- RS_UOPS_DISPATCHED.PORT2: A1H/04H (rule R318). -/
  | rsUopsDispatchedPort2
  /-- RS_UOPS_DISPATCHED.PORT3: A1H/08H (rule R319). -/
  | rsUopsDispatchedPort3
  /-- RS_UOPS_DISPATCHED.PORT4: A1H/10H (rule R320). -/
  | rsUopsDispatchedPort4
  /-- RS_UOPS_DISPATCHED.PORT5: A1H/20H (rule R321). -/
  | rsUopsDispatchedPort5
  /-- MACRO_INSTS.DECODED: AAH/01H (rule R322). -/
  | macroInstsDecoded
  /-- MACRO_INSTS.CISC_DECODED: AAH/08H (rule R323). -/
  | macroInstsCiscDecoded
  /-- ESP.SYNCH: ABH/01H (rule R324). -/
  | espSynch
  /-- ESP.ADDITIONS: ABH/02H (rule R325). -/
  | espAdditions
  /-- SIMD_UOPS_EXEC: B0H/00H (rule R326). -/
  | simdUopsExec
  /-- SIMD_SAT_UOP_EXEC: B1H/00H (rule R327). -/
  | simdSatUopExec
  /-- SIMD_UOP_TYPE_EXEC.MUL: B3H/01H (rule R328). -/
  | simdUopTypeExecMul
  /-- SIMD_UOP_TYPE_EXEC.SHIFT: B3H/02H (rule R329). -/
  | simdUopTypeExecShift
  /-- SIMD_UOP_TYPE_EXEC.PACK: B3H/04H (rule R330). -/
  | simdUopTypeExecPack
  /-- SIMD_UOP_TYPE_EXEC.UNPACK: B3H/08H (rule R331). -/
  | simdUopTypeExecUnpack
  /-- SIMD_UOP_TYPE_EXEC.LOGICAL: B3H/10H (rule R332). -/
  | simdUopTypeExecLogical
  /-- SIMD_UOP_TYPE_EXEC.ARITHMETIC: B3H/20H (rule R333). -/
  | simdUopTypeExecArithmetic
  /-- INST_RETIRED.ANY_P: C0H/00H (rule R334). -/
  | instRetiredAnyP
  /-- INST_RETIRED.LOADS: C0H/01H (rule R335). -/
  | instRetiredLoads
  /-- INST_RETIRED.STORES: C0H/02H (rule R336). -/
  | instRetiredStores
  /-- INST_RETIRED.OTHER: C0H/04H (rule R337). -/
  | instRetiredOther
  /-- X87_OPS_RETIRED.FXCH: C1H/01H (rule R338). -/
  | x87OpsRetiredFxch
  /-- X87_OPS_RETIRED.ANY: C1H/FEH (rule R339). -/
  | x87OpsRetiredAny
  /-- UOPS_RETIRED.LD_IND_BR: C2H/01H (rule R340). -/
  | uopsRetiredLdIndBr
  /-- UOPS_RETIRED.STD_STA: C2H/02H (rule R341). -/
  | uopsRetiredStdSta
  /-- UOPS_RETIRED.MACRO_FUSION: C2H/04H (rule R342). -/
  | uopsRetiredMacroFusion
  /-- UOPS_RETIRED.FUSED: C2H/07H (rule R343). -/
  | uopsRetiredFused
  /-- UOPS_RETIRED.NON_FUSED: C2H/08H (rule R344). -/
  | uopsRetiredNonFused
  /-- UOPS_RETIRED.ANY: C2H/0FH (rule R345). -/
  | uopsRetiredAny
  /-- MACHINE_NUKES.SMC: C3H/01H (rule R346). -/
  | machineNukesSmc
  /-- MACHINE_NUKES.MEM_ORDER: C3H/04H (rule R347). -/
  | machineNukesMemOrder
  /-- BR_INST_RETIRED.ANY: C4H/00H (rule R348). -/
  | brInstRetiredAny
  /-- BR_INST_RETIRED.PRED_NOT_TAKEN: C4H/01H (rule R349). -/
  | brInstRetiredPredNotTaken
  /-- BR_INST_RETIRED.MISPRED_NOT_TAKEN: C4H/02H (rule R350). -/
  | brInstRetiredMispredNotTaken
  /-- BR_INST_RETIRED.PRED_TAKEN: C4H/04H (rule R351). -/
  | brInstRetiredPredTaken
  /-- BR_INST_RETIRED.MISPRED_TAKEN: C4H/08H (rule R352). -/
  | brInstRetiredMispredTaken
  /-- BR_INST_RETIRED.TAKEN: C4H/0CH (rule R353). -/
  | brInstRetiredTaken
  /-- BR_INST_RETIRED.MISPRED: C5H/00H (rule R354). -/
  | brInstRetiredMispred
  /-- CYCLES_INT_MASKED: C6H/01H (rule R355). -/
  | cyclesIntMasked
  /-- CYCLES_INT_PENDING_AND_MASKED: C6H/02H (rule R356). -/
  | cyclesIntPendingAndMasked
  /-- SIMD_INST_RETIRED.PACKED_SINGLE: C7H/01H (rule R357). -/
  | simdInstRetiredPackedSingle
  /-- SIMD_INST_RETIRED.SCALAR_SINGLE: C7H/02H (rule R358). -/
  | simdInstRetiredScalarSingle
  /-- SIMD_INST_RETIRED.PACKED_DOUBLE: C7H/04H (rule R359). -/
  | simdInstRetiredPackedDouble
  /-- SIMD_INST_RETIRED.SCALAR_DOUBLE: C7H/08H (rule R360). -/
  | simdInstRetiredScalarDouble
  /-- SIMD_INST_RETIRED.VECTOR: C7H/10H (rule R361). -/
  | simdInstRetiredVector
  /-- SIMD_INST_RETIRED.ANY: C7H/1FH (rule R362). -/
  | simdInstRetiredAny
  /-- HW_INT_RCV: C8H/00H (rule R363). -/
  | hwIntRcv
  /-- ITLB_MISS_RETIRED: C9H/00H (rule R364). -/
  | itlbMissRetired
  /-- SIMD_COMP_INST_RETIRED.PACKED_SINGLE: CAH/01H (rule R365). -/
  | simdCompInstRetiredPackedSingle
  /-- SIMD_COMP_INST_RETIRED.SCALAR_SINGLE: CAH/02H (rule R366). -/
  | simdCompInstRetiredScalarSingle
  /-- SIMD_COMP_INST_RETIRED.PACKED_DOUBLE: CAH/04H (rule R367). -/
  | simdCompInstRetiredPackedDouble
  /-- SIMD_COMP_INST_RETIRED.SCALAR_DOUBLE: CAH/08H (rule R368). -/
  | simdCompInstRetiredScalarDouble
  /-- MEM_LOAD_RETIRED.L1D_MISS: CBH/01H (rule R369). -/
  | memLoadRetiredL1dMiss
  /-- MEM_LOAD_RETIRED.L1D_LINE_MISS: CBH/02H (rule R370). -/
  | memLoadRetiredL1dLineMiss
  /-- MEM_LOAD_RETIRED.L2_MISS: CBH/04H (rule R371). -/
  | memLoadRetiredL2Miss
  /-- MEM_LOAD_RETIRED.L2_LINE_MISS: CBH/08H (rule R372). -/
  | memLoadRetiredL2LineMiss
  /-- MEM_LOAD_RETIRED.DTLB_MISS: CBH/10H (rule R373). -/
  | memLoadRetiredDtlbMiss
  /-- FP_MMX_TRANS_TO_MMX: CCH/01H (rule R374). -/
  | fpMmxTransToMmx
  /-- FP_MMX_TRANS_TO_FP: CCH/02H (rule R375). -/
  | fpMmxTransToFp
  /-- SIMD_ASSIST: CDH/00H (rule R376). -/
  | simdAssist
  /-- SIMD_INSTR_RETIRED: CEH/00H (rule R377). -/
  | simdInstrRetired
  /-- SIMD_SAT_INSTR_RETIRED: CFH/00H (rule R378). -/
  | simdSatInstrRetired
  /-- RAT_STALLS.ROB_READ_PORT: D2H/01H (rule R379). -/
  | ratStallsRobReadPort
  /-- RAT_STALLS.PARTIAL_CYCLES: D2H/02H (rule R380). -/
  | ratStallsPartialCycles
  /-- RAT_STALLS.FLAGS: D2H/04H (rule R381). -/
  | ratStallsFlags
  /-- RAT_STALLS.FPSW: D2H/08H (rule R382). -/
  | ratStallsFpsw
  /-- RAT_STALLS.ANY: D2H/0FH (rule R383). -/
  | ratStallsAny
  /-- SEG_RENAME_STALLS.ES: D4H/01H (rule R384). -/
  | segRenameStallsEs
  /-- SEG_RENAME_STALLS.DS: D4H/02H (rule R385). -/
  | segRenameStallsDs
  /-- SEG_RENAME_STALLS.FS: D4H/04H (rule R386). -/
  | segRenameStallsFs
  /-- SEG_RENAME_STALLS.GS: D4H/08H (rule R387). -/
  | segRenameStallsGs
  /-- SEG_RENAME_STALLS.ANY: D4H/0FH (rule R388). -/
  | segRenameStallsAny
  /-- SEG_REG_RENAMES.ES: D5H/01H (rule R389). -/
  | segRegRenamesEs
  /-- SEG_REG_RENAMES.DS: D5H/02H (rule R390). -/
  | segRegRenamesDs
  /-- SEG_REG_RENAMES.FS: D5H/04H (rule R391). -/
  | segRegRenamesFs
  /-- SEG_REG_RENAMES.GS: D5H/08H (rule R392). -/
  | segRegRenamesGs
  /-- SEG_REG_RENAMES.ANY: D5H/0FH (rule R393). -/
  | segRegRenamesAny
  /-- RESOURCE_STALLS.ROB_FULL: DCH/01H (rule R394). -/
  | resourceStallsRobFull
  /-- RESOURCE_STALLS.RS_FULL: DCH/02H (rule R395). -/
  | resourceStallsRsFull
  /-- RESOURCE_STALLS.LD_ST: DCH/04H (rule R396). -/
  | resourceStallsLdSt
  /-- RESOURCE_STALLS.FPCW: DCH/08H (rule R397). -/
  | resourceStallsFpcw
  /-- RESOURCE_STALLS.BR_MISS_CLEAR: DCH/10H (rule R398). -/
  | resourceStallsBrMissClear
  /-- RESOURCE_STALLS.ANY: DCH/1FH (rule R399). -/
  | resourceStallsAny
  /-- BR_INST_DECODED: E0H/00H (rule R400). -/
  | brInstDecoded
  /-- BOGUS_BR: E4H/00H (rule R401). -/
  | bogusBr
  /-- BACLEARs: E6H/00H (rule R402). -/
  | baclears
  /-- PREF_RQSTS_UP: F0H/00H (rule R403). -/
  | prefRqstsUp
  /-- PREF_RQSTS_DN: F8H/00H (rule R404). -/
  | prefRqstsDn
  deriving DecidableEq, Repr

end Sys2Proof
end

