-- ==== Sys2Proof/WellFormed.lean ====
section
/-! DEFINITION. WellFormed.lean: which terms of `Instr` stand for a selection of their own.

A row with a composed unit mask takes every unit mask but those that a fixed row of the same event number has: the
longer mask wins (rule R114), so 2EH/41H, 2EH/4FH and 42H/10H are rows of their own and not instances of L2_RQSTS or
L1D_CACHE_LOCK. Whether the qualifier tables accept a unit mask is a question about the parameters, not about the
term (`Instr.acceptedBy` of Decode.lean). -/

namespace Sys2Proof

/-- Event 2EH: 41H and 4FH are rows of their own (rules R107 (a) and R114). -/
def l2RqstsUmaskOk (u : Byte) : Bool := u ≠ 0x41 && u ≠ 0x4F

/-- Event 42H: 10H is a row of its own (rules R107 (b) and R114). -/
def l1dCacheLockUmaskOk (u : Byte) : Bool := u ≠ 0x10

/-- The well-formed instructions: the only ill-formed ones are the composed rows of 2EH and 42H with the unit mask of
a fixed row. -/
def Instr.wellFormed (i : Instr) : Bool :=
  match i with
  | .l2Rqsts u => l2RqstsUmaskOk u
  | .l1dCacheLock u => l1dCacheLockUmaskOk u
  | _ => true

end Sys2Proof
end

