-- ==== Sys2Proof/Decode.lean ====
section
/-! DEFINITION. Decode.lean: from a selection to the event it selects (rule R114), from a register address to the event
of a fixed-function counter (rule R117), and back (`encode`).

The map of event numbers is that of rule R118: for each event number, the unit masks with a row of their own, and the
row with a composed unit mask where there is one. It is total: a pair no row lists is unlisted, `none` (rule R112). -/

namespace Sys2Proof

/-- One line of the map of rule R118: an event number, the unit masks with a row of their own, and the row whose unit
mask is composed from qualifier fields. -/
structure EventFamily where
  event : Byte
  fixed : List (Byte × Instr)
  composed : Option (Byte → Instr)

/-- Rule R118, event numbers 03H to 19H. -/
def families42 : List EventFamily := [
  ⟨0x03, [(0x02, .loadBlockSta), (0x04, .loadBlockStd), (0x08, .loadBlockOverlapStore),
    (0x10, .loadBlockUntilRetire), (0x20, .loadBlockL1d)], none⟩,
  ⟨0x04, [(0x01, .sbDrainCycles), (0x02, .storeBlockOrder), (0x08, .storeBlockSnoop)], none⟩,
  ⟨0x06, [(0x00, .segmentRegLoads)], none⟩,
  ⟨0x07, [(0x00, .ssePreExecNta), (0x01, .ssePreExecL1), (0x02, .ssePreExecL2), (0x03, .ssePreExecStores)], none⟩,
  ⟨0x08, [(0x01, .dtlbMissesAny), (0x02, .dtlbMissesMissLd), (0x04, .dtlbMissesL0MissLd),
    (0x08, .dtlbMissesMissSt)], none⟩,
  ⟨0x09, [(0x01, .memoryDisambiguationReset), (0x02, .memoryDisambiguationSuccess)], none⟩,
  ⟨0x0C, [(0x01, .pageWalksCount), (0x02, .pageWalksCycles)], none⟩,
  ⟨0x10, [(0x00, .fpCompOpsExe)], none⟩,
  ⟨0x11, [(0x00, .fpAssist)], none⟩,
  ⟨0x12, [(0x00, .mul)], none⟩,
  ⟨0x13, [(0x00, .div)], none⟩,
  ⟨0x14, [(0x00, .cyclesDivBusy)], none⟩,
  ⟨0x18, [(0x00, .idleDuringDiv)], none⟩,
  ⟨0x19, [(0x00, .delayedBypassFp), (0x01, .delayedBypassSimd), (0x02, .delayedBypassLoad)], none⟩]

/-- Rule R118, event numbers 21H to 3CH. -/
def families43 : List EventFamily := [
  ⟨0x21, [], some .l2Ads⟩,
  ⟨0x23, [], some .l2DbusBusyRd⟩,
  ⟨0x24, [], some .l2LinesIn⟩,
  ⟨0x25, [], some .l2MLinesIn⟩,
  ⟨0x26, [], some .l2LinesOut⟩,
  ⟨0x27, [], some .l2MLinesOut⟩,
  ⟨0x28, [], some .l2Ifetch⟩,
  ⟨0x29, [], some .l2Ld⟩,
  ⟨0x2A, [], some .l2St⟩,
  ⟨0x2B, [], some .l2Lock⟩,
  ⟨0x2E, [(0x41, .l2RqstsSelfDemandIState), (0x4F, .l2RqstsSelfDemandMesi)], some .l2Rqsts⟩,
  ⟨0x30, [], some .l2RejectBusq⟩,
  ⟨0x32, [], some .l2NoReq⟩,
  ⟨0x3A, [(0x00, .eistTrans)], none⟩,
  ⟨0x3B, [(0xC0, .thermalTrip)], none⟩,
  ⟨0x3C, [(0x00, .cpuClkUnhaltedCoreP), (0x01, .cpuClkUnhaltedBus), (0x02, .cpuClkUnhaltedNoOther)], none⟩]

/-- Rule R118, event numbers 40H to 4EH (`allRef` is UMASK_L1D_ALL_REF, D14). -/
def families44 (allRef : Byte) : List EventFamily := [
  ⟨0x40, [], some .l1dCacheLd⟩,
  ⟨0x41, [], some .l1dCacheSt⟩,
  ⟨0x42, [(0x10, .l1dCacheLockDuration)], some .l1dCacheLock⟩,
  ⟨0x43, [(allRef, .l1dAllRef), (0x02, .l1dAllCacheRef)], none⟩,
  ⟨0x45, [(0x0F, .l1dRepl)], none⟩,
  ⟨0x46, [(0x00, .l1dMRepl)], none⟩,
  ⟨0x47, [(0x00, .l1dMEvict)], none⟩,
  ⟨0x48, [(0x00, .l1dPendMiss)], none⟩,
  ⟨0x49, [(0x01, .l1dSplitLoads), (0x02, .l1dSplitStores)], none⟩,
  ⟨0x4B, [(0x00, .ssePreMissNta), (0x01, .ssePreMissL1), (0x02, .ssePreMissL2)], none⟩,
  ⟨0x4C, [(0x00, .loadHitPre)], none⟩,
  ⟨0x4E, [(0x10, .l1dPrefetchRequests)], none⟩]

/-- Rule R118, event numbers 60H to 7FH. -/
def families45 : List EventFamily := [
  ⟨0x60, [], some .busRequestOutstanding⟩,
  ⟨0x61, [], some .busBnrDrv⟩,
  ⟨0x62, [], some .busDrdyClocks⟩,
  ⟨0x63, [], some .busLockClocks⟩,
  ⟨0x64, [], some .busDataRcv⟩,
  ⟨0x65, [], some .busTransBrd⟩,
  ⟨0x66, [], some .busTransRfo⟩,
  ⟨0x67, [], some .busTransWb⟩,
  ⟨0x68, [], some .busTransIfetch⟩,
  ⟨0x69, [], some .busTransInvalid⟩,
  ⟨0x6A, [], some .busTransPwr⟩,
  ⟨0x6B, [], some .busTransP⟩,
  ⟨0x6C, [], some .busTransIo⟩,
  ⟨0x6D, [], some .busTransDef⟩,
  ⟨0x6E, [], some .busTransBurst⟩,
  ⟨0x6F, [], some .busTransMem⟩,
  ⟨0x70, [], some .busTransAny⟩,
  ⟨0x77, [], some .extSnoop⟩,
  ⟨0x78, [], some .cmpSnoop⟩,
  ⟨0x7A, [], some .busHitDrv⟩,
  ⟨0x7B, [], some .busHitmDrv⟩,
  ⟨0x7D, [], some .busqEmpty⟩,
  ⟨0x7E, [], some .snoopStallDrv⟩,
  ⟨0x7F, [], some .busIoWait⟩]

/-- Rule R118, event numbers 80H to ABH. -/
def families46 : List EventFamily := [
  ⟨0x80, [(0x00, .l1lReads)], none⟩,
  ⟨0x81, [(0x00, .l1lMisses)], none⟩,
  ⟨0x82, [(0x02, .itlbSmallMiss), (0x10, .itlbLargeMiss), (0x40, .itlbFlush), (0x12, .itlbMisses)], none⟩,
  ⟨0x83, [(0x02, .instQueueFull)], none⟩,
  ⟨0x86, [(0x00, .cyclesL1lMemStalled)], none⟩,
  ⟨0x87, [(0x00, .ildStall)], none⟩,
  ⟨0x88, [(0x00, .brInstExec)], none⟩,
  ⟨0x89, [(0x00, .brMispExec)], none⟩,
  ⟨0x8A, [(0x00, .brBacMispExec)], none⟩,
  ⟨0x8B, [(0x00, .brCndExec)], none⟩,
  ⟨0x8C, [(0x00, .brCndMisspExec)], none⟩,
  ⟨0x8D, [(0x00, .brIndExec)], none⟩,
  ⟨0x8E, [(0x00, .brIndMisspExec)], none⟩,
  ⟨0x8F, [(0x00, .brRetExec)], none⟩,
  ⟨0x90, [(0x00, .brRetMisspExec)], none⟩,
  ⟨0x91, [(0x00, .brRetBacMisspExec)], none⟩,
  ⟨0x92, [(0x00, .brCallExec)], none⟩,
  ⟨0x93, [(0x00, .brCallMisspExec)], none⟩,
  ⟨0x94, [(0x00, .brIndCallExec)], none⟩,
  ⟨0x97, [(0x00, .brTknBubble1)], none⟩,
  ⟨0x98, [(0x00, .brTknBubble2)], none⟩,
  ⟨0xA0, [(0x00, .rsUopsDispatched)], none⟩,
  ⟨0xA1, [(0x01, .rsUopsDispatchedPort0), (0x02, .rsUopsDispatchedPort1), (0x04, .rsUopsDispatchedPort2),
    (0x08, .rsUopsDispatchedPort3), (0x10, .rsUopsDispatchedPort4), (0x20, .rsUopsDispatchedPort5)], none⟩,
  ⟨0xAA, [(0x01, .macroInstsDecoded), (0x08, .macroInstsCiscDecoded)], none⟩,
  ⟨0xAB, [(0x01, .espSynch), (0x02, .espAdditions)], none⟩]

/-- Rule R118, event numbers B0H to C3H. -/
def families47 : List EventFamily := [
  ⟨0xB0, [(0x00, .simdUopsExec)], none⟩,
  ⟨0xB1, [(0x00, .simdSatUopExec)], none⟩,
  ⟨0xB3, [(0x01, .simdUopTypeExecMul), (0x02, .simdUopTypeExecShift), (0x04, .simdUopTypeExecPack),
    (0x08, .simdUopTypeExecUnpack), (0x10, .simdUopTypeExecLogical), (0x20, .simdUopTypeExecArithmetic)], none⟩,
  ⟨0xC0, [(0x00, .instRetiredAnyP), (0x01, .instRetiredLoads), (0x02, .instRetiredStores),
    (0x04, .instRetiredOther)], none⟩,
  ⟨0xC1, [(0x01, .x87OpsRetiredFxch), (0xFE, .x87OpsRetiredAny)], none⟩,
  ⟨0xC2, [(0x01, .uopsRetiredLdIndBr), (0x02, .uopsRetiredStdSta), (0x04, .uopsRetiredMacroFusion),
    (0x07, .uopsRetiredFused), (0x08, .uopsRetiredNonFused), (0x0F, .uopsRetiredAny)], none⟩,
  ⟨0xC3, [(0x01, .machineNukesSmc), (0x04, .machineNukesMemOrder)], none⟩]

/-- Rule R118, event numbers C4H to CFH. -/
def families48 : List EventFamily := [
  ⟨0xC4, [(0x00, .brInstRetiredAny), (0x01, .brInstRetiredPredNotTaken), (0x02, .brInstRetiredMispredNotTaken),
    (0x04, .brInstRetiredPredTaken), (0x08, .brInstRetiredMispredTaken), (0x0C, .brInstRetiredTaken)], none⟩,
  ⟨0xC5, [(0x00, .brInstRetiredMispred)], none⟩,
  ⟨0xC6, [(0x01, .cyclesIntMasked), (0x02, .cyclesIntPendingAndMasked)], none⟩,
  ⟨0xC7, [(0x01, .simdInstRetiredPackedSingle), (0x02, .simdInstRetiredScalarSingle),
    (0x04, .simdInstRetiredPackedDouble), (0x08, .simdInstRetiredScalarDouble), (0x10, .simdInstRetiredVector),
    (0x1F, .simdInstRetiredAny)], none⟩,
  ⟨0xC8, [(0x00, .hwIntRcv)], none⟩,
  ⟨0xC9, [(0x00, .itlbMissRetired)], none⟩,
  ⟨0xCA, [(0x01, .simdCompInstRetiredPackedSingle), (0x02, .simdCompInstRetiredScalarSingle),
    (0x04, .simdCompInstRetiredPackedDouble), (0x08, .simdCompInstRetiredScalarDouble)], none⟩,
  ⟨0xCB, [(0x01, .memLoadRetiredL1dMiss), (0x02, .memLoadRetiredL1dLineMiss), (0x04, .memLoadRetiredL2Miss),
    (0x08, .memLoadRetiredL2LineMiss), (0x10, .memLoadRetiredDtlbMiss)], none⟩,
  ⟨0xCC, [(0x01, .fpMmxTransToMmx), (0x02, .fpMmxTransToFp)], none⟩,
  ⟨0xCD, [(0x00, .simdAssist)], none⟩,
  ⟨0xCE, [(0x00, .simdInstrRetired)], none⟩,
  ⟨0xCF, [(0x00, .simdSatInstrRetired)], none⟩]

/-- Rule R118, event numbers D2H to F8H. -/
def families49 : List EventFamily := [
  ⟨0xD2, [(0x01, .ratStallsRobReadPort), (0x02, .ratStallsPartialCycles), (0x04, .ratStallsFlags),
    (0x08, .ratStallsFpsw), (0x0F, .ratStallsAny)], none⟩,
  ⟨0xD4, [(0x01, .segRenameStallsEs), (0x02, .segRenameStallsDs), (0x04, .segRenameStallsFs),
    (0x08, .segRenameStallsGs), (0x0F, .segRenameStallsAny)], none⟩,
  ⟨0xD5, [(0x01, .segRegRenamesEs), (0x02, .segRegRenamesDs), (0x04, .segRegRenamesFs),
    (0x08, .segRegRenamesGs), (0x0F, .segRegRenamesAny)], none⟩,
  ⟨0xDC, [(0x01, .resourceStallsRobFull), (0x02, .resourceStallsRsFull), (0x04, .resourceStallsLdSt),
    (0x08, .resourceStallsFpcw), (0x10, .resourceStallsBrMissClear), (0x1F, .resourceStallsAny)], none⟩,
  ⟨0xE0, [(0x00, .brInstDecoded)], none⟩,
  ⟨0xE4, [(0x00, .bogusBr)], none⟩,
  ⟨0xE6, [(0x00, .baclears)], none⟩,
  ⟨0xF0, [(0x00, .prefRqstsUp)], none⟩,
  ⟨0xF8, [(0x00, .prefRqstsDn)], none⟩]

/-- The map of rule R118: 119 event numbers. -/
def eventFamilies (allRef : Byte) : List EventFamily :=
  families42 ++ families43 ++ families44 allRef ++ families45 ++ families46 ++ families47 ++ families48 ++ families49

/-- The row a family gives to a unit mask: a row of its own first, then the composed row (rule R114, steps 2 and 3). -/
def EventFamily.select (f : EventFamily) (u : Byte) : Option Instr :=
  match f.fixed.lookup u with
  | some i => some i
  | none => f.composed.map (· u)

/-- Decoding a pair with UMASK_L1D_ALL_REF as a parameter (rule R114 and D14). The composed row is found by its event
number alone; whether its qualifier tables accept the unit mask is `Instr.acceptedBy`. -/
def decodeWith (allRef e u : Byte) : Option Instr :=
  ((eventFamilies allRef).find? (·.event = e)).bind (·.select u)

/-- Decoding a pair with UMASK_L1D_ALL_REF at its default, 10H as printed (D14). -/
def decode (e u : Byte) : Option Instr := decodeWith 0x10 e u

/-- Decoding an event code `EC` (rule R114, step 1). -/
def decodeCode (c : EventCode) : Option Instr := decode c.eventNum c.umask

/-- The event of a fixed-function counter by the address of its register (rules R23 to R25 and R117). -/
def decodeMsr (a : Nat) : Option Instr :=
  match a with
  | 0x309 => some .fixedInstrRetiredAny
  | 0x30A => some .fixedCpuClkUnhaltedCore
  | 0x30B => some .fixedCpuClkUnhaltedRef
  | _ => none

/-- The qualifiers a unit mask can be composed from (rule R16). -/
inductive Qualifier where
  | core | agent | prefetch | mesi | snoopResp | snoopType
  deriving DecidableEq, Repr

/-- The qualifier fields of a row (rule R106); none for a row whose unit mask is fixed. -/
def Instr.qualifiers (i : Instr) : List Qualifier :=
  match i with
  | .l2Ads _ => [.core]
  | .l2DbusBusyRd _ => [.core]
  | .l2LinesIn _ => [.core, .prefetch]
  | .l2MLinesIn _ => [.core]
  | .l2LinesOut _ => [.core, .prefetch]
  | .l2MLinesOut _ => [.core, .prefetch]
  | .l2Ifetch _ => [.core, .mesi]
  | .l2Ld _ => [.core, .prefetch, .mesi]
  | .l2St _ => [.core, .mesi]
  | .l2Lock _ => [.core, .mesi]
  | .l2Rqsts _ => [.core, .prefetch, .mesi]
  | .l2RejectBusq _ => [.core, .prefetch, .mesi]
  | .l2NoReq _ => [.core]
  | .l1dCacheLd _ => [.mesi]
  | .l1dCacheSt _ => [.mesi]
  | .l1dCacheLock _ => [.mesi]
  | .busRequestOutstanding _ => [.core, .agent]
  | .busBnrDrv _ => [.agent]
  | .busDrdyClocks _ => [.agent]
  | .busLockClocks _ => [.core, .agent]
  | .busDataRcv _ => [.core]
  | .busTransBrd _ => [.core, .agent]
  | .busTransRfo _ => [.core, .agent]
  | .busTransWb _ => [.core, .agent]
  | .busTransIfetch _ => [.core, .agent]
  | .busTransInvalid _ => [.core, .agent]
  | .busTransPwr _ => [.core, .agent]
  | .busTransP _ => [.core, .agent]
  | .busTransIo _ => [.core, .agent]
  | .busTransDef _ => [.core, .agent]
  | .busTransBurst _ => [.core, .agent]
  | .busTransMem _ => [.core, .agent]
  | .busTransAny _ => [.core, .agent]
  | .extSnoop _ => [.agent, .snoopResp]
  | .cmpSnoop _ => [.core, .snoopType]
  | .busHitDrv _ => [.agent]
  | .busHitmDrv _ => [.agent]
  | .busqEmpty _ => [.core]
  | .snoopStallDrv _ => [.core, .agent]
  | .busIoWait _ => [.core]
  | _ => []

/-- The settings of the qualifier fields of one selection. A field the row does not have stands at the setting that
selects this core, this agent, demand requests and nothing else; no meaning reads it. -/
structure Settings where
  core : CoreSetting := .self
  agent : AgentSetting := .thisAgent
  prefetch : PrefetchSetting := .demand
  mesi : MesiSetting := ⟨false, false, false, false⟩
  snoopResp : List SnoopResp := []
  snoopType : List SnoopKind := []
  deriving DecidableEq, Repr

/-- The core field of a unit mask: by table T18_7; on a processor with one core the field is reserved and must be 00B
(rule R113), and then selects the one core there is. -/
def decodeCore (p : Params) (u : Byte) : Option CoreSetting :=
  if p.nCores = 1 then (if u &&& p.core.field = 0 then some .self else none) else p.core.decode u

/-- The bits of the unit mask that a qualifier's field occupies. -/
def Qualifier.field (p : Params) (q : Qualifier) : Byte :=
  match q with
  | .core => p.core.field
  | .agent => p.agent.field
  | .prefetch => p.prefetch.field
  | .mesi => p.mesi.field
  | .snoopResp => p.snoopResp.field
  | .snoopType => p.snoopType.field

/-- Reads one qualifier's field of a unit mask into the settings; none where its table accepts no setting. -/
def Qualifier.read (p : Params) (u : Byte) (s : Settings) (q : Qualifier) : Option Settings :=
  match q with
  | .core => (decodeCore p u).map fun v => { s with core := v }
  | .agent => (p.agent.decode u).map fun v => { s with agent := v }
  | .prefetch => (p.prefetch.decode u).map fun v => { s with prefetch := v }
  | .mesi => (p.mesi.decode u).map fun v => { s with mesi := v }
  | .snoopResp => (p.snoopResp.decode u).map fun v => { s with snoopResp := v }
  | .snoopType => (p.snoopType.decode u).map fun v => { s with snoopType := v }

/-- The bits of the unit mask that the fields of these qualifiers occupy. -/
def fieldsOf (p : Params) (qs : List Qualifier) : Byte := qs.foldr (fun q a => q.field p ||| a) 0

/-- Reads the fields of these qualifiers one after the other. -/
def readSettings (p : Params) (u : Byte) : List Qualifier → Settings → Option Settings
  | [], s => some s
  | q :: qs, s => (q.read p u s).bind (readSettings p u qs)

/-- The settings of a unit mask composed from these qualifiers: every field's table accepts it and no bit outside the
fields is set (rules R105 and R114, step 3). -/
def decodeSettings (p : Params) (qs : List Qualifier) (u : Byte) : Option Settings :=
  if u &&& ~~~fieldsOf p qs = 0 then readSettings p u qs {} else none

/-- The bits that these settings of these qualifiers contribute: the bitwise OR of one value per qualifier (rule
R105). -/
def encodeSettings (p : Params) (qs : List Qualifier) (s : Settings) : Option Byte :=
  qs.foldr (fun q acc => acc.bind fun a => (match q with
    | .core => p.core.encode s.core
    | .agent => p.agent.encode s.agent
    | .prefetch => p.prefetch.encode s.prefetch
    | .mesi => p.mesi.encode s.mesi
    | .snoopResp => p.snoopResp.encode s.snoopResp
    | .snoopType => p.snoopType.encode s.snoopType).map (· ||| a)) (some 0)

/-- Whether the qualifier tables accept the unit mask of a row: always for a row whose unit mask is fixed (rule R114). -/
def Instr.acceptedBy (i : Instr) (p : Params) (u : Byte) : Bool :=
  i.qualifiers.isEmpty || (decodeSettings p i.qualifiers u).isSome

/-- Decoding a selection in full (rule R114): the row of the pair, where its qualifier tables accept the unit mask;
otherwise the pair is unlisted. -/
def decodeSelection (p : Params) (e u : Byte) : Option Instr :=
  (decodeWith p.umaskAllRef e u).filter (·.acceptedBy p u)

/-- What an instruction is written as: a pair for an event-select register (rule R100), or the address of a
fixed-function counter (rule R117). -/
inductive Encoding where
  | select (e u : Byte)
  | register (address : Nat)
  deriving DecidableEq, Repr

/-- The encoding of an instruction: the match value of its row of spec/opcode_table.json, with the operand in bits 15:8
where the row's unit mask is composed. -/
def encode (i : Instr) : Encoding :=
  match i with
  | .archUnhaltedCoreCycles => .select 0x3C 0x00
  | .archUnhaltedReferenceCycles => .select 0x3C 0x01
  | .archInstructionRetired => .select 0xC0 0x00
  | .archLlcReference => .select 0x2E 0x4F
  | .archLlcMisses => .select 0x2E 0x41
  | .archBranchInstructionRetired => .select 0xC4 0x00
  | .archBranchMissesRetired => .select 0xC5 0x00
  | .fixedInstrRetiredAny => .register 0x309
  | .fixedCpuClkUnhaltedCore => .register 0x30A
  | .fixedCpuClkUnhaltedRef => .register 0x30B
  | .loadBlockSta => .select 0x03 0x02
  | .loadBlockStd => .select 0x03 0x04
  | .loadBlockOverlapStore => .select 0x03 0x08
  | .loadBlockUntilRetire => .select 0x03 0x10
  | .loadBlockL1d => .select 0x03 0x20
  | .sbDrainCycles => .select 0x04 0x01
  | .storeBlockOrder => .select 0x04 0x02
  | .storeBlockSnoop => .select 0x04 0x08
  | .segmentRegLoads => .select 0x06 0x00
  | .ssePreExecNta => .select 0x07 0x00
  | .ssePreExecL1 => .select 0x07 0x01
  | .ssePreExecL2 => .select 0x07 0x02
  | .ssePreExecStores => .select 0x07 0x03
  | .dtlbMissesAny => .select 0x08 0x01
  | .dtlbMissesMissLd => .select 0x08 0x02
  | .dtlbMissesL0MissLd => .select 0x08 0x04
  | .dtlbMissesMissSt => .select 0x08 0x08
  | .memoryDisambiguationReset => .select 0x09 0x01
  | .memoryDisambiguationSuccess => .select 0x09 0x02
  | .pageWalksCount => .select 0x0C 0x01
  | .pageWalksCycles => .select 0x0C 0x02
  | .fpCompOpsExe => .select 0x10 0x00
  | .fpAssist => .select 0x11 0x00
  | .mul => .select 0x12 0x00
  | .div => .select 0x13 0x00
  | .cyclesDivBusy => .select 0x14 0x00
  | .idleDuringDiv => .select 0x18 0x00
  | .delayedBypassFp => .select 0x19 0x00
  | .delayedBypassSimd => .select 0x19 0x01
  | .delayedBypassLoad => .select 0x19 0x02
  | .l2Ads u => .select 0x21 u
  | .l2DbusBusyRd u => .select 0x23 u
  | .l2LinesIn u => .select 0x24 u
  | .l2MLinesIn u => .select 0x25 u
  | .l2LinesOut u => .select 0x26 u
  | .l2MLinesOut u => .select 0x27 u
  | .l2Ifetch u => .select 0x28 u
  | .l2Ld u => .select 0x29 u
  | .l2St u => .select 0x2A u
  | .l2Lock u => .select 0x2B u
  | .l2Rqsts u => .select 0x2E u
  | .l2RqstsSelfDemandIState => .select 0x2E 0x41
  | .l2RqstsSelfDemandMesi => .select 0x2E 0x4F
  | .l2RejectBusq u => .select 0x30 u
  | .l2NoReq u => .select 0x32 u
  | .eistTrans => .select 0x3A 0x00
  | .thermalTrip => .select 0x3B 0xC0
  | .cpuClkUnhaltedCoreP => .select 0x3C 0x00
  | .cpuClkUnhaltedBus => .select 0x3C 0x01
  | .cpuClkUnhaltedNoOther => .select 0x3C 0x02
  | .l1dCacheLd u => .select 0x40 u
  | .l1dCacheSt u => .select 0x41 u
  | .l1dCacheLock u => .select 0x42 u
  | .l1dCacheLockDuration => .select 0x42 0x10
  | .l1dAllRef => .select 0x43 0x10
  | .l1dAllCacheRef => .select 0x43 0x02
  | .l1dRepl => .select 0x45 0x0F
  | .l1dMRepl => .select 0x46 0x00
  | .l1dMEvict => .select 0x47 0x00
  | .l1dPendMiss => .select 0x48 0x00
  | .l1dSplitLoads => .select 0x49 0x01
  | .l1dSplitStores => .select 0x49 0x02
  | .ssePreMissNta => .select 0x4B 0x00
  | .ssePreMissL1 => .select 0x4B 0x01
  | .ssePreMissL2 => .select 0x4B 0x02
  | .loadHitPre => .select 0x4C 0x00
  | .l1dPrefetchRequests => .select 0x4E 0x10
  | .busRequestOutstanding u => .select 0x60 u
  | .busBnrDrv u => .select 0x61 u
  | .busDrdyClocks u => .select 0x62 u
  | .busLockClocks u => .select 0x63 u
  | .busDataRcv u => .select 0x64 u
  | .busTransBrd u => .select 0x65 u
  | .busTransRfo u => .select 0x66 u
  | .busTransWb u => .select 0x67 u
  | .busTransIfetch u => .select 0x68 u
  | .busTransInvalid u => .select 0x69 u
  | .busTransPwr u => .select 0x6A u
  | .busTransP u => .select 0x6B u
  | .busTransIo u => .select 0x6C u
  | .busTransDef u => .select 0x6D u
  | .busTransBurst u => .select 0x6E u
  | .busTransMem u => .select 0x6F u
  | .busTransAny u => .select 0x70 u
  | .extSnoop u => .select 0x77 u
  | .cmpSnoop u => .select 0x78 u
  | .busHitDrv u => .select 0x7A u
  | .busHitmDrv u => .select 0x7B u
  | .busqEmpty u => .select 0x7D u
  | .snoopStallDrv u => .select 0x7E u
  | .busIoWait u => .select 0x7F u
  | .l1lReads => .select 0x80 0x00
  | .l1lMisses => .select 0x81 0x00
  | .itlbSmallMiss => .select 0x82 0x02
  | .itlbLargeMiss => .select 0x82 0x10
  | .itlbFlush => .select 0x82 0x40
  | .itlbMisses => .select 0x82 0x12
  | .instQueueFull => .select 0x83 0x02
  | .cyclesL1lMemStalled => .select 0x86 0x00
  | .ildStall => .select 0x87 0x00
  | .brInstExec => .select 0x88 0x00
  | .brMispExec => .select 0x89 0x00
  | .brBacMispExec => .select 0x8A 0x00
  | .brCndExec => .select 0x8B 0x00
  | .brCndMisspExec => .select 0x8C 0x00
  | .brIndExec => .select 0x8D 0x00
  | .brIndMisspExec => .select 0x8E 0x00
  | .brRetExec => .select 0x8F 0x00
  | .brRetMisspExec => .select 0x90 0x00
  | .brRetBacMisspExec => .select 0x91 0x00
  | .brCallExec => .select 0x92 0x00
  | .brCallMisspExec => .select 0x93 0x00
  | .brIndCallExec => .select 0x94 0x00
  | .brTknBubble1 => .select 0x97 0x00
  | .brTknBubble2 => .select 0x98 0x00
  | .rsUopsDispatched => .select 0xA0 0x00
  | .rsUopsDispatchedPort0 => .select 0xA1 0x01
  | .rsUopsDispatchedPort1 => .select 0xA1 0x02
  | .rsUopsDispatchedPort2 => .select 0xA1 0x04
  | .rsUopsDispatchedPort3 => .select 0xA1 0x08
  | .rsUopsDispatchedPort4 => .select 0xA1 0x10
  | .rsUopsDispatchedPort5 => .select 0xA1 0x20
  | .macroInstsDecoded => .select 0xAA 0x01
  | .macroInstsCiscDecoded => .select 0xAA 0x08
  | .espSynch => .select 0xAB 0x01
  | .espAdditions => .select 0xAB 0x02
  | .simdUopsExec => .select 0xB0 0x00
  | .simdSatUopExec => .select 0xB1 0x00
  | .simdUopTypeExecMul => .select 0xB3 0x01
  | .simdUopTypeExecShift => .select 0xB3 0x02
  | .simdUopTypeExecPack => .select 0xB3 0x04
  | .simdUopTypeExecUnpack => .select 0xB3 0x08
  | .simdUopTypeExecLogical => .select 0xB3 0x10
  | .simdUopTypeExecArithmetic => .select 0xB3 0x20
  | .instRetiredAnyP => .select 0xC0 0x00
  | .instRetiredLoads => .select 0xC0 0x01
  | .instRetiredStores => .select 0xC0 0x02
  | .instRetiredOther => .select 0xC0 0x04
  | .x87OpsRetiredFxch => .select 0xC1 0x01
  | .x87OpsRetiredAny => .select 0xC1 0xFE
  | .uopsRetiredLdIndBr => .select 0xC2 0x01
  | .uopsRetiredStdSta => .select 0xC2 0x02
  | .uopsRetiredMacroFusion => .select 0xC2 0x04
  | .uopsRetiredFused => .select 0xC2 0x07
  | .uopsRetiredNonFused => .select 0xC2 0x08
  | .uopsRetiredAny => .select 0xC2 0x0F
  | .machineNukesSmc => .select 0xC3 0x01
  | .machineNukesMemOrder => .select 0xC3 0x04
  | .brInstRetiredAny => .select 0xC4 0x00
  | .brInstRetiredPredNotTaken => .select 0xC4 0x01
  | .brInstRetiredMispredNotTaken => .select 0xC4 0x02
  | .brInstRetiredPredTaken => .select 0xC4 0x04
  | .brInstRetiredMispredTaken => .select 0xC4 0x08
  | .brInstRetiredTaken => .select 0xC4 0x0C
  | .brInstRetiredMispred => .select 0xC5 0x00
  | .cyclesIntMasked => .select 0xC6 0x01
  | .cyclesIntPendingAndMasked => .select 0xC6 0x02
  | .simdInstRetiredPackedSingle => .select 0xC7 0x01
  | .simdInstRetiredScalarSingle => .select 0xC7 0x02
  | .simdInstRetiredPackedDouble => .select 0xC7 0x04
  | .simdInstRetiredScalarDouble => .select 0xC7 0x08
  | .simdInstRetiredVector => .select 0xC7 0x10
  | .simdInstRetiredAny => .select 0xC7 0x1F
  | .hwIntRcv => .select 0xC8 0x00
  | .itlbMissRetired => .select 0xC9 0x00
  | .simdCompInstRetiredPackedSingle => .select 0xCA 0x01
  | .simdCompInstRetiredScalarSingle => .select 0xCA 0x02
  | .simdCompInstRetiredPackedDouble => .select 0xCA 0x04
  | .simdCompInstRetiredScalarDouble => .select 0xCA 0x08
  | .memLoadRetiredL1dMiss => .select 0xCB 0x01
  | .memLoadRetiredL1dLineMiss => .select 0xCB 0x02
  | .memLoadRetiredL2Miss => .select 0xCB 0x04
  | .memLoadRetiredL2LineMiss => .select 0xCB 0x08
  | .memLoadRetiredDtlbMiss => .select 0xCB 0x10
  | .fpMmxTransToMmx => .select 0xCC 0x01
  | .fpMmxTransToFp => .select 0xCC 0x02
  | .simdAssist => .select 0xCD 0x00
  | .simdInstrRetired => .select 0xCE 0x00
  | .simdSatInstrRetired => .select 0xCF 0x00
  | .ratStallsRobReadPort => .select 0xD2 0x01
  | .ratStallsPartialCycles => .select 0xD2 0x02
  | .ratStallsFlags => .select 0xD2 0x04
  | .ratStallsFpsw => .select 0xD2 0x08
  | .ratStallsAny => .select 0xD2 0x0F
  | .segRenameStallsEs => .select 0xD4 0x01
  | .segRenameStallsDs => .select 0xD4 0x02
  | .segRenameStallsFs => .select 0xD4 0x04
  | .segRenameStallsGs => .select 0xD4 0x08
  | .segRenameStallsAny => .select 0xD4 0x0F
  | .segRegRenamesEs => .select 0xD5 0x01
  | .segRegRenamesDs => .select 0xD5 0x02
  | .segRegRenamesFs => .select 0xD5 0x04
  | .segRegRenamesGs => .select 0xD5 0x08
  | .segRegRenamesAny => .select 0xD5 0x0F
  | .resourceStallsRobFull => .select 0xDC 0x01
  | .resourceStallsRsFull => .select 0xDC 0x02
  | .resourceStallsLdSt => .select 0xDC 0x04
  | .resourceStallsFpcw => .select 0xDC 0x08
  | .resourceStallsBrMissClear => .select 0xDC 0x10
  | .resourceStallsAny => .select 0xDC 0x1F
  | .brInstDecoded => .select 0xE0 0x00
  | .bogusBr => .select 0xE4 0x00
  | .baclears => .select 0xE6 0x00
  | .prefRqstsUp => .select 0xF0 0x00
  | .prefRqstsDn => .select 0xF8 0x00

/-- Decoding an encoding: a pair by rule R114, a register address by rule R117. -/
def decodeEncoding (c : Encoding) : Option Instr :=
  match c with
  | .select e u => decode e u
  | .register a => decodeMsr a

/-- The event an instruction names: an architectural event is a second name of a row of Table A-3 (rule R111), and is
never the result of decoding (D15). -/
def Instr.event (i : Instr) : Instr :=
  match i with
  | .archUnhaltedCoreCycles => .cpuClkUnhaltedCoreP
  | .archUnhaltedReferenceCycles => .cpuClkUnhaltedBus
  | .archInstructionRetired => .instRetiredAnyP
  | .archLlcReference => .l2RqstsSelfDemandMesi
  | .archLlcMisses => .l2RqstsSelfDemandIState
  | .archBranchInstructionRetired => .brInstRetiredAny
  | .archBranchMissesRetired => .brInstRetiredMispred
  | i => i

/-- The word of an encoding as spec/opcode_table.json numbers its bits: an event code, or a register address. -/
def Encoding.word (c : Encoding) : Nat :=
  match c with
  | .select e u => (eventCode e u).toNat
  | .register a => a

/-- The instruction the decoder reads from the bits `w`: an event code, and where no row lists the pair, the address of
a fixed-function counter. The two spaces are apart (rule R104); 309H, 30AH and 30BH read as event codes are unlisted
pairs, so no word has two readings. -/
def decodeTableWord (_nbits w : Nat) : Option Instr :=
  match decodeCode (BitVec.ofNat 16 w) with
  | some i => some i
  | none => decodeMsr w

end Sys2Proof
end

