-- ==== Sys2Proof/Machine/State.lean ====
section
/-! DEFINITION. State.lean: the state of the machine as plain data: the counters and their event-select registers (rules
R20 to R27), the processor state that event conditions read (rules R28 to R42), the history still to come and the
moment of it that is being counted (rules R12 and D1).

A MOMENT is one occurrence or one cycle of one clock. Between two moments the machine serves, one a step, every counter
that is counting: the counter's event is decoded and its meaning adds to the counter what the moment is worth. -/

namespace Sys2Proof.Machine

/-- The faults of the machine: there is none. No point of this hardware has the treatment fault or stuck
(93_implementation_defined.md; rule R500 (a)). Safe: nothing can be proved of a fault. -/
inductive Fault where
  deriving DecidableEq, Repr

/-- What the machine refuses, and who raises it. -/
inductive Refusal where
  /-- Raised by `exec` for an instruction with no meaning yet; no arm raises it. Safe: the machine stops. -/
  | notModelled (mnemonic : String)
  /-- Raised by `select` and `read` for a general-purpose counter index outside 0 to N_GP-1: refuse to model (rule R21,
  93_implementation_defined.md row 8). Safe: the spec gives such an index no meaning. -/
  | counterIndex
  /-- Raised by an input about the second core of a processor with N_CORES = 1 (rule R9, D18). Safe: there is no such
  core. -/
  | noSuchCore
  /-- Raised by an access to an address of the model-specific registers that is not in the spec's map (rule R84). Safe:
  the spec gives such an address no meaning. -/
  | msrOutsideSpec
  /-- Raised by a write to the address of a counter: refuse to model (rule R27, 93_implementation_defined.md row 9).
  Safe: the spec gives software `select` and `read` only. -/
  | counterWrite
  /-- Raised by a read at the address of an event-select register: the spec gives software no such operation (rules R22
  and R27; log entry 32). Safe: the machine stops. -/
  | evtselRead
  deriving DecidableEq, Repr

/-- The cores of the processor package; `c1` exists when N_CORES is 2 (rule R524). -/
inductive CoreId where
  | c0 | c1
  deriving DecidableEq, Repr

/-- The other core on the processor (rule R524). -/
def CoreId.other (x : CoreId) : CoreId :=
  match x with
  | .c0 => .c1
  | .c1 => .c0

/-- A bus agent: this processor, or another (rule R20 (c)). -/
inductive Agent where
  | thisProcessor
  | another (n : Nat)
  deriving DecidableEq, Repr

/-- The three fixed-function counters of a core (rules R23 to R25). -/
inductive FixedId where
  | ctr0 | ctr1 | ctr2
  deriving DecidableEq, Repr

/-- A counter: `PMC[k]` of a core, or a fixed-function counter of a core (rules R20, R21 and R42). -/
inductive CounterId where
  | gp (x : CoreId) (k : Nat)
  | fixed (x : CoreId) (f : FixedId)
  deriving DecidableEq, Repr

/-- `PMC[i]` and `EVTSEL[i]` (rules R21 and R22). -/
structure GpCounter where
  /-- Whether `select` has been applied: before it, no event is counted and a read answers any value (rule R43). -/
  selected : Bool
  /-- `EVTSEL[i].EventNum`. -/
  eventNum : Byte
  /-- `EVTSEL[i].Umask`. -/
  umask : Byte
  /-- `PMC[i]`, an unsigned value of CTR_WIDTH bits. -/
  pmc : Nat
  /-- The nominal count `N` since `PMC[i]` was last zero (rule R12). -/
  nominal : Nat
  deriving DecidableEq, Repr

/-- A fixed-function counter: its value of CTR_WIDTH bits and the nominal count of its event (rules R12, R23 to R25). -/
structure FixedCounter where
  value : Nat
  nominal : Nat
  deriving DecidableEq, Repr

/-- A model-specific register of the spec's map: a fixed-function counter, `PMC[k]` or `EVTSEL[k]` (rule R84). -/
inductive Register where
  | fixed (f : FixedId)
  | pmc (k : Nat)
  | evtsel (k : Nat)
  deriving DecidableEq, Repr

/-! ## What an occurrence is made of -/

/-- The memory types the source names (rule R61); an I/O access has none of them. -/
inductive MemType where
  | cacheable | uncacheable | writeThrough | writeCombine | io
  deriving DecidableEq, Repr

/-- The bytes an access touches: `size` bytes from `addr` on (rule R64). -/
structure Access where
  addr : Nat
  size : Nat
  deriving DecidableEq, Repr

/-- A reference to the L1 data cache (rules R61, R64, R250 to R255, R260 and R261). -/
structure DataRef where
  write : Bool
  locked : Bool
  memType : MemType
  bytes : Access
  deriving DecidableEq, Repr

/-- Why the L1 data cache blocks a load: the triggers LOAD_BLOCK.L1D lists, and those it does not list (rule R204). -/
inductive L1dTrigger where
  | tooManyMisses
  | lineSplit (load : Access)
  | partialRead (load : DataRef)
  | lockedLoad
  | unlisted
  deriving DecidableEq, Repr

/-- Why a load is blocked (rules R67 and R200 to R204). -/
inductive LoadBlock where
  | unknownAddress
  | unknownData (load store : Access)
  | overlap (load store : Access)
  | overlapUnlisted
  | untilRetire (load : DataRef)
  | l1d (t : L1dTrigger)
  deriving DecidableEq, Repr

/-- The four software prefetch instructions (rule R80). -/
inductive SsePrefetch where
  | nta | t0 | t1 | t2
  deriving DecidableEq, Repr

/-- Multiply operations (rule R223). -/
inductive MulKind where
  | integer | floating
  deriving DecidableEq, Repr

/-- Divide operations; a square root is one (rule R224). -/
inductive DivKind where
  | integer | floating | squareRoot
  deriving DecidableEq, Repr

/-- Execution units between which data is bypassed (rules R40 (o), R227 to R229). -/
inductive ExecUnit where
  | floating | simd | integer | load
  deriving DecidableEq, Repr

/-- A floating point operation executed, as far as rule R507 reads it. -/
structure FpOp where
  /-- An X87 operation; otherwise an SSE operation. -/
  x87 : Bool
  denormalInput : Bool
  /-- A NaN or denormal loaded to a register or used as input from memory. -/
  nanOrDenormalLoaded : Bool
  divideByZero : Bool
  underflow : Bool
  deriving DecidableEq, Repr

/-- A kind of L2 cache request (rules R236 to R240). Rule R77 says that page walks go through the caches and that ITLB
miss accesses reach the L2 as requests of another kind than fetches; of those after a DTLB miss it names no kind. The
model gives each of the two a kind of its own, of which no row but by a free value counts an access (DESIGN CHOICE of
form, log entries 5 and 41). -/
inductive L2Kind where
  | l1dRead | l1dWrite | l1dLock | l1dPrefetch | ifetch | hwPrefetch
  /-- An access of the page walk after an ITLB miss. -/
  | itlbMiss
  /-- An access of the page walk after a DTLB miss. -/
  | dtlbMiss
  deriving DecidableEq, Repr

/-- An L2 cache request of a core (rules R236 to R243). -/
structure L2Req where
  kind : L2Kind
  line : Nat
  cacheable : Bool
  /-- It is one that completes. The rows that count completed requests count it by this flag where it is made (rules
  R143, R144 and R240 to R242; DESIGN CHOICE, log entry 62). -/
  completed : Bool
  deriving DecidableEq, Repr

/-- A transition of the core clock (rules R29, R30 and R245): an EIST or TM2 transition, or one to a C state; the
frequency and the voltage after it where it changes them. -/
inductive TransitionKind where
  | eist | tm2 | cState (n : Nat)
  deriving DecidableEq, Repr

/-- A transition and what it changes (rule R29). -/
structure Transition where
  kind : TransitionKind
  frequency : Option Nat
  voltage : Option Nat
  deriving DecidableEq, Repr

/-- An outstanding miss of the L1 data cache, and the type of the memory it goes to (rules R204 and R259). -/
inductive Miss where
  | demand (t : MemType)
  | softwarePrefetch (t : MemType)
  | hwPrefetch
  deriving DecidableEq, Repr

/-- Who reads a full cache line over the bus (rules R267 and R272). -/
inductive Reader where
  | l1d | l2Prefetcher | ifu | unlisted
  deriving DecidableEq, Repr

/-- The kinds of bus transaction (rule R81); `unlistedBurst` and `unlisted` stand for those behind the source's words
"including" and "other less frequent transactions". A transaction has one kind: the source does not define "deferred"
and does not say whether a deferred transaction can be a memory or an I/O transaction too (rules R280 and R283); here it
is a kind of its own, which BUS_TRANS_DEF and BUS_TRANS_ANY count and no memory or I/O row. Nor does it say whether a
deferral and the "deferred transaction completion" of BUS_TRANS_ANY are one transaction or two (rule R81): here they are
one, of kind `deferred` (DESIGN CHOICE, log entry 56). -/
inductive BusKind where
  | burstRead (r : Reader)
  | readForOwnership
  | explicitWriteback
  | implicitWriteback
  | writeCombineLine
  | unlistedBurst
  | invalidate
  | partialRead
  | partialWrite
  | io
  | deferred
  /-- An interrupt on its way to a core of this processor, or to nobody here (rules R81 and R505). -/
  | interrupt (receiver : Option CoreId)
  | unlisted
  deriving DecidableEq, Repr

/-- A bus transaction: its kind, the agent that issues it, the core of that agent it is for, whether it completed, and
whether it asks for a snoop response (rules R81 and R560). -/
structure BusTrans where
  kind : BusKind
  agent : Agent
  core : Option CoreId
  /-- It is one that completes. BUS_TRANS_IO counts it by this flag where it is submitted (rule R279; DESIGN CHOICE, log
  entry 62). -/
  completed : Bool
  needsSnoop : Bool
  deriving DecidableEq, Repr

/-- A read transaction pending on the bus, from the cycle it is sent until the full line is received (rule R267). -/
structure PendingRead where
  reader : Reader
  readForOwnership : Bool
  fullLine : Bool
  cacheable : Bool
  agent : Agent
  core : Option CoreId
  deriving DecidableEq, Repr

/-- Kinds of branch (rules R303 to R312). -/
inductive BranchKind where
  | conditional | indirect | ret | call | indirectCall | unlisted
  deriving DecidableEq, Repr

/-- A branch executed (rules R300 to R312). -/
structure Branch where
  kind : BranchKind
  mispredicted : Bool
  mispredictedAtDecode : Bool
  /-- A micro-op branch and not a branch instruction (rule R300). -/
  microOp : Bool
  deriving DecidableEq, Repr

/-- A page of code: its number and its size in bytes (rules R64 and R293). -/
structure CodePage where
  page : Nat
  bytes : Nat
  deriving DecidableEq, Repr

/-- An instruction fetch (rules R291 to R296). -/
structure Fetch where
  page : CodePage
  uncacheable : Bool
  missesIfu : Bool
  memoryRequest : Bool
  deriving DecidableEq, Repr

/-- What the instruction length decoder sees of an instruction (rule R120). -/
structure LengthDecode where
  prefix66 : Bool
  prefix67 : Bool
  immediate : Bool
  modrm : Bool
  deriving DecidableEq, Repr

/-- Types of SIMD micro-op (rules R328 to R333). -/
inductive SimdUopType where
  | mul | shift | pack | unpack | logical | arithmetic
  deriving DecidableEq, Repr

/-- A SIMD micro-op executed (rules R326 to R333). -/
structure SimdUop where
  /-- Its types. Whether the six classes are disjoint the source does not say, nor whether a packed multiply is a packed
  arithmetic micro-op too: a micro-op may have several types, and counts under each (DESIGN CHOICE, log entry 53). -/
  types : List SimdUopType
  saturated : Bool
  /-- A MOVQ or MOVD store from register to memory. -/
  movStore : Bool
  deriving DecidableEq, Repr

/-- The types of fusion of a retired micro-op (rules R340 to R342). A micro-op has one of them or none (DESIGN CHOICE,
log entry 29). -/
inductive Fusion where
  | loadOp | loadIndirectBranch | storeAddressData | macroFusion
  deriving DecidableEq, Repr

/-- The five classes of SIMD instruction (rule R38). -/
inductive SimdClass where
  | packedSingle | scalarSingle | packedDouble | scalarDouble | vectorInteger
  deriving DecidableEq, Repr

/-- The outcome of a retired branch (rules R348 to R354). -/
structure BranchOutcome where
  taken : Bool
  mispredicted : Bool
  deriving DecidableEq, Repr

/-- An instruction retired (rules R334 to R338, R348 to R354, R357 to R368, R377 and R378). -/
structure RetiredInst where
  addr : Nat
  /-- The address of the instruction executed immediately after it (rule R510). -/
  next : Nat
  load : Bool
  /-- The bytes it stores, where it is an instruction with a store operation (rule R336). One store is one store of the
  pipeline, as rule R396 counts it (DESIGN CHOICE, log entry 44). -/
  store : Option Access
  fxch : Bool
  missedItlb : Bool
  branch : Option BranchOutcome
  simdClass : Option SimdClass
  /-- A computational instruction in the sense of rules R365 to R368, which count arithmetic instructions and leave out
  those that "perform load and store operations". Which of the two an arithmetic instruction with a memory operand is
  they do not say: this flag alone decides, whatever `load` and `store` are (DESIGN CHOICE, log entry 63). -/
  computational : Bool
  /-- A SIMD instruction in the sense of SIMD_INSTR_RETIRED, which the source does not relate to the classes (R377). The
  model takes the same sense for SIMD_SAT_INSTR_RETIRED, which the source relates to neither (rule R378; DESIGN CHOICE,
  log entry 54). -/
  simd : Bool
  saturated : Bool
  /-- The loads it performs at retirement (rules R66 and R563). -/
  atRetirement : List DataRef
  /-- The locked accesses it locks a line or the bus for: locking happens at retirement (rules R68 and R563). -/
  locks : List DataRef
  deriving DecidableEq, Repr

/-- A micro-op retired: its fusion, and the instructions whose last micro-op it is (rules R15, R334 and R342: none, one,
or two where two instructions are fused into one micro-op). It has at most one type of fusion: whether a micro-op can
belong to two the source does not say, and the sum of rule R343 "holds if no micro-op belongs to two fusion types"
(DESIGN CHOICE, log entry 29). -/
structure RetiredUop where
  fusion : Option Fusion
  completes : List RetiredInst
  deriving DecidableEq, Repr

/-- A floating-point operation retired (rule R339). -/
structure X87Op where
  computational : Bool
  loadOrStore : Bool
  causedTrapOrAssist : Bool
  next : Nat
  deriving DecidableEq, Repr

/-- A load retired (rules R369 to R373). Its flags are those of the load as a whole: a split load that misses two lines
has one `missedL1d` and one `lineInFlight`, and counts once (DESIGN CHOICE, log entry 57). -/
structure RetiredLoad where
  memType : MemType
  softwarePrefetch : Bool
  missedL1d : Bool
  /-- The fetch of the missing line had already started. -/
  lineInFlight : Bool
  missedL2 : Bool
  /-- The bus request for the missing line had already been made. -/
  busInFlight : Bool
  missedDtlb : Bool
  faulted : Bool
  blocked : Bool
  next : Nat
  deriving DecidableEq, Repr

/-- Causes of a pipeline restart (rules R72, R75 and R508). -/
inductive Nuke where
  | selfModifyingCode | memoryOrder | disambiguation
  deriving DecidableEq, Repr

/-- The segment registers the source names (rule R37). -/
inductive SegReg where
  | es | ds | fs | gs
  deriving DecidableEq, Repr

/-- Directions of a prefetch of the Data Prefetch Logic (rule R80). -/
inductive Direction where
  | upward | downward
  deriving DecidableEq, Repr

/-- Who accesses memory when the DTLB is looked up (rules R76 and R213 to R216). -/
inductive AccessKind where
  | load | store | unlisted
  deriving DecidableEq, Repr

/-! ## Moments -/

/-- An occurrence in a core that is what it is whatever the state says. -/
inductive Occ where
  | loadBlocked (b : LoadBlock)
  /-- A software prefetch instruction executed. When it starts prefetching the source does not say: that is the input
  `prefetchStart`, which this occurrence does not bring about (rules R80 and R209 to R211; DESIGN CHOICE, log entry
  47). -/
  | ssePrefetch (k : SsePrefetch) (missedAllLevels : Bool)
  | nonTemporalStore
  | disambiguated
  | fpComputationalUop
  | multiply (k : MulKind)
  | divide (k : DivKind)
  | bypass (user source : ExecUnit)
  /-- A request of the L1 data cache to prefetch a line: rejected or not, and submitted again after that or not (rule
  R266). -/
  | l1dPrefetch (rejected resubmitted : Bool)
  | branchExecuted (b : Branch)
  | takenBubble
  /-- An instruction decoded. What "one complex instruction at a time" limits, a cycle or a decoder, rules R40 (i) and
  R323 do not say: each decode is a moment of its own, and any number of complex ones may stand between two cycles
  (DESIGN CHOICE, log entry 60). -/
  | decoded (complex branch : Bool)
  | simdUop (u : SimdUop)
  | x87Retired (o : X87Op)
  | loadRetired (l : RetiredLoad)
  | bogusBranch
  | baclear
  deriving DecidableEq, Repr

/-- What the processor's state makes of an input in a core: an occurrence with what the state decided of it. -/
inductive Found where
  /-- A segment register load operation. -/
  | segmentLoad
  /-- A memory access and whether it missed DTLB0 and the DTLB. -/
  | dtlbLookup (k : AccessKind) (missedL0 missedDtlb : Bool)
  | pageWalk
  /-- A floating point operation and whether it required an assist. -/
  | fpOp (assist : Bool)
  /-- A line allocated in the L2 cache for a request of demand origin or of an L2 hardware prefetcher. -/
  | l2LineIn (hwPrefetch : Bool)
  | l2LineOut (hwPrefetch modified : Bool)
  /-- A modified line written back from the L1 data cache to the L2 cache. -/
  | modifiedLineToL2
  /-- An L2 request, whether its line is missing in the L1 data cache of its core, and the state in which it finds its
  line in the L2 cache (rules R236 to R242). -/
  | l2Request (r : L2Req) (missedL1d : Bool) (found : LineState)
  | l2Reject (r : L2Req) (found : LineState)
  /-- A transition, and whether the row EIST_TRANS describes it. -/
  | transition (counted : Bool)
  /-- A reference to the L1 data cache and the states of the first and of the last line it touches. A split access is
  one reference too (DESIGN CHOICE, log entry 57). -/
  | dataRef (a : DataRef) (first last : LineState)
  | l1dLineIn (modified : Bool)
  | l1dLineOut (modified : Bool)
  /-- A pipeline restart (rule R508). -/
  | nuke (k : Nuke)
  /-- A load sent to the L1 data cache, and whether a software prefetch of its line is in flight. -/
  | loadSent (hitsPrefetch : Bool)
  /-- The L1 data cache of this core snooped for the other core. -/
  | coreSnoop (k : SnoopKind)
  /-- An instruction fetch, and whether it missed the ITLB. -/
  | fetch (f : Fetch) (missedItlb : Bool)
  | itlbFlush
  | espSynch
  | espImplicit (addition : Bool)
  | interruptReceived
  | mmxInst (afterFloatingPoint : Bool)
  | fpInst (afterMmx : Bool)
  | simdAssist
  | retired (u : RetiredUop)
  | fpswWritten
  | segmentRenamed (r : SegReg)
  | segmentStalled (r : SegReg)
  | dplPrefetch (d : Direction)
  deriving DecidableEq, Repr

/-- An occurrence of the package or of the bus. -/
inductive SysOcc where
  | thermalTrip
  | bnr (a : Agent)
  | snoopStall (a : Agent) (x : Option CoreId)
  | busTrans (t : BusTrans)
  /-- A snoop response seen on the bus: its type, the agent that gives it, the agent whose transaction it answers. -/
  | snoopResponse (r : SnoopResp) (giver requester : Agent)
  deriving DecidableEq, Repr

/-- A cycle of a clock (rule R14): the core clock of a core, the bus clock, the reference clock. -/
inductive Tick where
  | core (x : CoreId)
  | bus
  | ref
  deriving DecidableEq, Repr

/-- The moment that is being counted. -/
inductive Moment where
  /-- Nothing has happened yet. -/
  | quiet
  | tick (t : Tick)
  | occ (x : CoreId) (o : Occ)
  | found (x : CoreId) (f : Found)
  | sys (o : SysOcc)
  deriving DecidableEq, Repr

/-! ## Processor state -/

/-- Lines of a cache and their states, in one canonical form: line numbers strictly rising, no line in state I; a line
that is not listed is in state I (rules R41 and R79). -/
abbrev LineMap := List (Nat × LineState)

/-- A segment register (rule R37) and whether a renamed copy waits for retirement (rule R384). -/
structure Segment where
  value : Nat
  renamed : Bool
  deriving DecidableEq, Repr

/-- The modes rule R520 names, and those beyond the four. -/
inductive Mode where
  | real | bigReal | protected16 | protected32 | unnamed
  deriving DecidableEq, Repr

/-- Which kind of instruction was the last of the two FP_MMX_TRANS distinguishes (rules R374 and R375). -/
inductive FpMmx where
  | neither | floatingPoint | mmx
  deriving DecidableEq, Repr

/-- The program-visible registers the source names (rules R34 to R39). No event reads the value of one, except the flags
DAZ and FTZ; widths are not in the source, so each is a natural number. -/
structure Regs where
  eax : Nat
  ebx : Nat
  esp : Nat
  rdi : Nat
  /-- The flag register (rule R36). -/
  flags : Nat
  /-- Instruction address (rule R35). -/
  instAddr : Nat
  cr0 : Nat
  cr3 : Nat
  /-- FPU status word (rule R38 (a)). -/
  fpsw : Nat
  /-- FPU control word (rule R38 (b)). -/
  fpcw : Nat
  /-- Denormals Are Zeros (rule R38 (c)). -/
  daz : Bool
  /-- Flush To Zero (rule R38 (c)). -/
  ftz : Bool
  /-- The floating point stack (rule R38 (d)). -/
  fpStack : List Nat
  /-- The MMX state in the floating point stack (rule R38 (d)). -/
  mmxState : Bool
  /-- The registers that X87 and SIMD values are loaded to and those MOVQ and MOVD store from (rule R38 (e) and (f)).
  Whether these are the same registers, and whether they are the floating point stack of (d), the source does not say:
  those of (e) and (f) are one list, and `fpStack` is another (DESIGN CHOICE, log entry 19). -/
  vectorRegs : List Nat
  mode : Mode
  /-- The state that selects the paging mode, which the source does not name (rules R39 and R77): a number of its own,
  so that a write of CR0 or CR3 does not change it (DESIGN CHOICE, log entry 19). -/
  pagingMode : Nat
  deriving DecidableEq, Repr

/-- An entry of a core's part of the bus queue: an IO request (rule R290), or a transaction for a cache line of a set
(rule R40 (f)). -/
inductive QueueEntry where
  | io
  | line (set : Nat)
  deriving DecidableEq, Repr

/-- What starts a drain of the store buffer (rules R69 and R74): a serializing operation such as CPUID, a synchronizing
operation such as XCHG, an interrupt acknowledgment, another condition such as cache flushing. -/
inductive DrainCause where
  | serializing | synchronizing | interruptAcknowledgment | other
  deriving DecidableEq, Repr

/-- How many instructions of the pipeline wait for retirement, how many of these wait for execution too, and how many
loads and stores there are (rules R15, R40 (l), (m) and (n), R394 to R396). -/
structure InFlight where
  retirement : Nat
  execution : Nat
  loads : Nat
  stores : Nat
  deriving DecidableEq, Repr

/-- Loads that are blocked: until retirement (rules R66 and R203), or until the data of a store is committed (rules R67
and R202): the bytes of the load and of the store. -/
structure Blocked where
  untilRetirement : List DataRef
  untilCommit : List (Access × Access)
  deriving DecidableEq, Repr

/-- What the branch predictor and the memory disambiguation predictor hold (rules R40 (j) and (q)); the source says
nothing of it. -/
structure Predictors where
  branch : List Nat
  disambiguation : List Nat
  deriving DecidableEq, Repr

/-- The levels of the pipeline structures of rule R40 that events sample at a cycle. Each is an input of the model
(rules R40 and R43, D20): a program cannot read it. -/
structure Pipe where
  /-- A store waits for a preceding store to be observed by other cores (rule R206). Which of the inputs that wait holds
  back the source does not say: here none (DESIGN CHOICE, log entry 58). -/
  storeWaitsForOrder : Bool
  /-- The store port is used for an external snoop of the L1 data cache (rule R207). -/
  storePortSnooping : Bool
  /-- A store is stalled by that snoop (rule R207). What the stall holds back the source does not say, only that the
  store "is typically resubmitted one cycle later" (rules R79 and R559): here nothing, and a store commits while it is
  true (DESIGN CHOICE, log entry 58). -/
  storeStalledBySnoop : Bool
  /-- A memory disambiguation misprediction occurs (rule R217). -/
  disambiguationMispredicted : Bool
  /-- The divider executes a divide or square root (rule R225); it holds back nothing, no second divide either (DESIGN
  CHOICE, log entry 58). -/
  dividerBusy : Bool
  /-- Another execution unit works on micro-ops dispatched after the divider started (rule R226). -/
  otherUnitBusy : Bool
  /-- A load operation is in progress (rule R226). "Load operations are assumed to hit the L1 data cache. This event
  considers only micro-ops dispatched after the divider started operating": how these words bear on a load in progress
  the source does not say. The level is that of any load in progress, one that misses the L1 data cache or was
  dispatched before the divider started among them; `otherUnitBusy` alone is limited to later micro-ops (DESIGN CHOICE,
  log entry 55). -/
  loadInProgress : Bool
  /-- A load incurs a delayed bypass penalty cycle (rule R229); it holds back nothing (DESIGN CHOICE, log entry 58). -/
  loadBypassPenalty : Bool
  /-- The L2 address bus is in use for an access of this core (rule R230). -/
  l2AddressBus : Bool
  /-- The L2 data bus transfers data to this core (rule R231). -/
  l2DataBus : Bool
  /-- L2 cache requests of this core that are pending (rule R244). -/
  l2Pending : Nat
  /-- Outstanding misses of the L1 data cache (rules R204 and R259). Rule R40 (b) calls their number bounded, rule R204
  lets it exceed MAX_L1D_OUTSTANDING_MISSES: the list may have any length, and the maximum is the threshold of that
  trigger and bounds nothing. Misses to uncacheable memory and to I/O space stand in the list too (DESIGN CHOICE, log
  entry 59). -/
  misses : List Miss
  /-- A locked load operation is in progress (rule R204). Other loads "can be blocked" meanwhile (rule R68), which is an
  input: the level by itself holds back none (DESIGN CHOICE, log entry 58). -/
  lockedLoad : Bool
  /-- The bus queue is full (rules R40 (f) and R243). -/
  busQueueFull : Bool
  /-- The instruction queue is full (rule R297). -/
  instQueueFull : Bool
  /-- An instruction fetch stalls (rule R298). Which fetches that holds back the source does not say: here none (DESIGN
  CHOICE, log entry 58). -/
  fetchStalled : Bool
  /-- A micro-op is dispatched on port 0 to 5 (rules R315 to R321). -/
  port0 : Bool
  port1 : Bool
  port2 : Bool
  port3 : Bool
  port4 : Bool
  port5 : Bool
  /-- Stalls of the RAT (rules R379 to R381). What "execution stalled" of `flagStall` holds back the source does not
  say: here nothing (DESIGN CHOICE, log entry 58). -/
  robReadPortStall : Bool
  /-- A partial register stall (rule R380). What the longer latency holds back the source does not say: here nothing
  (DESIGN CHOICE, log entry 58). -/
  partialRegisterStall : Bool
  flagStall : Bool
  /-- Execution is stalled by a write of the FPU control word (rule R397). What that holds back the source does not say:
  here nothing (DESIGN CHOICE, log entry 58). -/
  fpcwStall : Bool
  /-- A branch misprediction was detected and the branch and all older micro-ops have not retired (rule R398). -/
  branchMissClear : Bool
  /-- Registers written in part (rule R34). -/
  partlyWritten : List Nat
  deriving DecidableEq, Repr

/-- The translation lookaside buffers: the pages each level holds (rule R76). -/
structure Tlb where
  dtlb0 : List Nat
  dtlb1 : List Nat
  itlb : List CodePage
  deriving DecidableEq, Repr

/-- One core: its counters and the state its events read (rule R42). -/
structure Core where
  gp : List GpCounter
  /-- Whether the model's start-of-counting point of the fixed-function counters has passed (rule R43, D11). -/
  fixedStarted : Bool
  fixed0 : FixedCounter
  fixed1 : FixedCounter
  fixed2 : FixedCounter
  /-- The halt state (rule R28), "in which a core does not run" (rule R17). What that holds back the source does not
  say: here nothing, a halted core fetches, executes and retires where the history says so, and its events count (DESIGN
  CHOICE, log entry 38). What state is lost in it rule R526 leaves unsaid: here none (DESIGN CHOICE, log entry 67). -/
  halted : Bool
  /-- The C state; 0 is C0 (rule R30). What a core outside C0 ceases to do or loses the source does not say (rules R30
  and R526): here nothing (DESIGN CHOICE, log entry 67). -/
  cState : Nat
  /-- Core frequency and voltage (rule R29). Whether each core has its own or the cores share them the source does not
  say, and rule R42 lists them under neither: each core has its own (DESIGN CHOICE, log entry 15). -/
  frequency : Nat
  voltage : Nat
  /-- The frequency and the voltage to which a tripped processor returns (rule R31; log entry 23). -/
  normalFrequency : Nat
  normalVoltage : Nat
  /-- Interrupts are disabled (rule R33). -/
  intDisabled : Bool
  /-- Interrupts that are pending (rule R33). -/
  intPending : Nat
  /-- The program-visible registers. Rule R42 lists those of rules R34 to R39 neither among what each core has nor among
  what the cores share: each core has a set of its own, the segment registers beside it included (DESIGN CHOICE, log
  entry 64). -/
  regs : Regs
  es : Segment
  ds : Segment
  fs : Segment
  gs : Segment
  /-- ESP was used implicitly and not explicitly since (rules R34 and R324). -/
  espImplicit : Bool
  lastFpMmx : FpMmx
  pipe : Pipe
  inFlight : InFlight
  /-- Stores that have retired and do not yet wait in the store buffer, the oldest first: only these commit their data
  after it (rules R67 and R69; log entry 44). -/
  retiredStores : List Access
  /-- Stores waiting in the store buffer, the oldest first (rules R40 (a) and R69), and why it drains, where it does
  (rule R205). -/
  storeBuffer : List Access
  draining : Option DrainCause
  /-- The instructions in the pipe that wait for all previous stores, such as SFENCE and MFENCE, the youngest first: for
  each, how many of those stores have still to commit their data (rules R73 and R396). -/
  fences : List Nat
  blocked : Blocked
  predictors : Predictors
  /-- Pending transactions of this core in the bus queue (rules R40 (f), R288 and R290). -/
  busQueue : List QueueEntry
  /-- Snoops for the other core that wait for the store port, and whether one used it in the last cycle (rule R79). -/
  portSnoops : Nat
  portSnooping : Bool
  /-- Cycles for which writes of the FPU status word still stall, and whether the last cycle stalled (rules R382 and
  R383). What these cycles hold back the source does not say: here nothing (DESIGN CHOICE, log entry 58). -/
  fpswStallLeft : Nat
  fpswStalling : Bool
  tlb : Tlb
  /-- Page walks in progress (rule R220); one holds back nothing (DESIGN CHOICE, log entry 58). -/
  pageWalks : Nat
  /-- Cycles for which the length decoder still uses the slow decoder, and whether it used it in the last cycle (rules
  R299 and R551). They hold back nothing (DESIGN CHOICE, log entry 58). -/
  slowDecodeLeft : Nat
  slowDecoding : Bool
  /-- Cache lines locked by locking instructions (rule R253). -/
  lockedLines : List Nat
  /-- Software prefetches started and not finished, and the lines they fetch (rules R80 and R265). -/
  prefetching : List (SsePrefetch × Nat)
  /-- Lines of the L1 data cache (rules R40 (b) and R41). -/
  l1d : LineMap
  /-- Lines of the L1 instruction cache (rule R40 (c)). Rule R41 gives M, E, S and I to lines of the L1 data caches and
  of the L2 cache only and says nothing of the states of these; the model gives them the same four (DESIGN CHOICE, log
  entry 35). No event reads them. -/
  l1i : LineMap
  deriving DecidableEq, Repr

/-- The bus as the events see it (rules R81 and R560). -/
structure Bus where
  pending : List PendingRead
  /-- Agents that send data, DRDY being asserted (rule R269). -/
  dataSent : List Agent
  /-- Who asserts LOCK and for which core: one entry for each locked access that does (rules R68 and R270). -/
  lock : List (Agent × Option CoreId)
  /-- Cores for which the processor receives data (rule R271). -/
  receiving : List CoreId
  /-- Agents that drive HIT# and HITM# (rules R286 and R287). -/
  hitDriven : List Agent
  hitmDriven : List Agent
  deriving DecidableEq, Repr

/-- The thermal state of the processor (rule R31). -/
structure Thermal where
  temperature : Nat
  tripped : Bool
  deriving DecidableEq, Repr

/-! ## Inputs -/

/-- What the outside does and what the processor does, in the order of the history: the two operations of software
(rule R27), the start of counting of the fixed-function counters (rule R43), the cycles of the clocks (rule R14) and
the occurrences (rule R12, D1 and D20). -/
inductive Input where
  /-- `select(i, EventNum, Umask)` (rule R27). -/
  | select (x : CoreId) (k : Nat) (e u : Byte)
  /-- `read(c)` (rule R27). -/
  | read (c : CounterId)
  /-- A read and a write of a model-specific register by its address (rules R23 to R25, R27 and R84). -/
  | readMsr (x : CoreId) (a : Nat)
  | writeMsr (x : CoreId) (a w : Nat)
  /-- The start-of-counting point of the fixed-function counters of a core (rule R43, D11). -/
  | startFixed (x : CoreId)
  | tick (t : Tick)
  | setPipe (x : CoreId) (p : Pipe)
  | setPredictors (x : CoreId) (p : Predictors)
  /-- An instruction enters the out-of-order pipeline (rules R394 to R396). -/
  | enterPipe (x : CoreId) (load store : Bool)
  /-- An instruction of the pipeline waits no longer for execution (rule R395). -/
  | execute (x : CoreId)
  /-- Instructions, among them the youngest `fences` that wait for all previous stores, and blocked loads leave the
  pipeline without retiring, on a path the processor abandons (rules R15, R73 and R508). -/
  | abandon (x : CoreId) (n : InFlight) (fences : Nat) (loads : List DataRef)
  /-- The pipeline is restarted: it is cleaned of `n`, all that succeeds the load that is restarted, of that load itself
  where the cause restarts one, of the youngest `fences` and of the blocked `loads` (rules R72, R75, R217 and R508). -/
  | nuke (x : CoreId) (k : Nuke) (n : InFlight) (fences : Nat) (loads : List DataRef)
  /-- The oldest store that has retired and not yet done so starts to wait in the store buffer; the oldest store of the
  buffer leaves it, its data committed (rules R67, R69 and R396). -/
  | storeWait (x : CoreId)
  | storeCommit (x : CoreId)
  /-- Something that drains the store buffer occurs (rules R69 and R74). -/
  | drain (x : CoreId) (c : DrainCause)
  /-- An instruction in the pipe waits for all previous stores (rule R73). -/
  | fence (x : CoreId)
  /-- A request wants to move to the bus queue: an IO request, or an L2 request for a line of a set (rules R40 (f), R243
  and R290); an entry leaves the queue. -/
  | ioRequest (x : CoreId)
  | busRequest (x : CoreId) (r : L2Req) (set : Nat)
  | dequeue (x : CoreId) (e : QueueEntry)
  | setRegs (x : CoreId) (r : Regs)
  | setBus (b : Bus)
  /-- HLT or MWAIT (rule R28, D12). -/
  | halt (x : CoreId) (byMwait : Bool)
  | wake (x : CoreId)
  | transition (x : CoreId) (t : Transition)
  | temperature (t : Nat)
  /-- The thermal check made every millisecond (rule R31). -/
  | millisecond
  | disableInterrupts (x : CoreId) (b : Bool)
  | interrupt (x : CoreId)
  | takeInterrupt (x : CoreId)
  | occ (x : CoreId) (o : Occ)
  | segmentLoad (x : CoreId) (r : SegReg) (value : Nat) (retires : Bool)
  | segmentUpdate (x : CoreId) (r : SegReg)
  | segmentRetire (x : CoreId) (r : SegReg)
  | dataAccess (x : CoreId) (k : AccessKind) (page : Nat)
  | setTlb (x : CoreId) (t : Tlb)
  /-- A page walk starts and ends, from an uncacheable page table or not (rules R68, R77 and R219). PAGE_WALKS.COUNT
  counts the start (DESIGN CHOICE, log entry 66). -/
  | pageWalkStart (x : CoreId) (uncacheable : Bool)
  | pageWalkEnd (x : CoreId) (uncacheable : Bool)
  | fpOp (x : CoreId) (o : FpOp)
  | l2LineIn (x : CoreId) (line : Nat) (st : LineState) (hwPrefetch : Bool)
  | l2LineOut (x : CoreId) (line : Nat) (hwPrefetch : Bool)
  /-- A line of the L2 cache gets another state without being brought in or evicted, as by a snoop from the bus. A
  modified line that becomes I so is invalidated by a snoop request, and is written back (rules R79 and R274; log
  entries 12 and 46). -/
  | l2LineState (line : Nat) (st : LineState)
  | l2Request (x : CoreId) (r : L2Req)
  /-- A delay on the way to the bus queue for a reason the source does not list (rule R243). -/
  | l2Reject (x : CoreId) (r : L2Req)
  /-- A reference is made at execution, or performed at retirement (rules R66 and R563). -/
  | dataRef (x : CoreId) (a : DataRef)
  | retiredRef (x : CoreId) (a : DataRef)
  | l1dLineIn (x : CoreId) (line : Nat) (st : LineState)
  | l1dLineOut (x : CoreId) (line : Nat)
  /-- A modified line is written back from the L1 data cache to the L2 cache (rule R233). -/
  | writeBackToL2 (x : CoreId) (line : Nat)
  /-- A line of the L1 data cache gets another state (rule R41; log entry 12). -/
  | l1dLineState (x : CoreId) (line : Nat) (st : LineState)
  | l1iLineState (x : CoreId) (line : Nat) (st : LineState)
  /-- A load of these bytes is sent to the L1 data cache (rule R265). -/
  | loadSent (x : CoreId) (bytes : Access)
  /-- A software prefetch starts; it ends, its line coming in in a state (rule R80). Its start is an input apart from
  the execution of its instruction (DESIGN CHOICE, log entry 47). -/
  | prefetchStart (x : CoreId) (k : SsePrefetch) (addr : Nat)
  | prefetchEnd (x : CoreId) (k : SsePrefetch) (addr : Nat) (st : LineState)
  /-- A locked access ends (rule R68). -/
  | lockEnd (x : CoreId) (a : DataRef)
  | coreSnoop (x : CoreId) (line : Nat) (k : SnoopKind) (after : Option LineState)
  | fetch (x : CoreId) (f : Fetch)
  | itlbFlush (x : CoreId)
  /-- A write of CR0 (`toCr3 = false`) or CR3, and whether it flushes the ITLB (rule R78). -/
  | controlWrite (x : CoreId) (toCr3 : Bool) (value : Nat) (flushes : Bool)
  | lengthDecode (x : CoreId) (d : LengthDecode)
  | espImplicit (x : CoreId) (addition : Bool)
  | espExplicit (x : CoreId)
  | fpInst (x : CoreId)
  | mmxInst (x : CoreId)
  | emms (x : CoreId)
  | retire (x : CoreId) (u : RetiredUop)
  | fpswWrite (x : CoreId) (value : Nat)
  | fpcwWrite (x : CoreId) (value : Nat)
  /-- A prefetch of the Data Prefetch Logic, its line coming in in a state (rule R80). -/
  | dplPrefetch (x : CoreId) (d : Direction) (line : Nat) (st : LineState)
  | bnr (a : Agent)
  | snoopStall (a : Agent) (x : Option CoreId)
  | busTrans (t : BusTrans)
  | snoopResponse (r : SnoopResp) (giver requester : Agent)
  deriving DecidableEq, Repr

/-! ## The state -/

/-- The state of the machine. -/
structure State where
  /-- The implementation parameters (rule R9); no step changes them. -/
  params : Params
  core0 : Core
  core1 : Core
  /-- Lines of the L2 cache, which the cores share (rule R42). -/
  l2 : LineMap
  bus : Bus
  /-- Bus cycles for which BNR stays asserted, and for which snoops stay prohibited (rule R560). -/
  bnrLeft : Nat
  snoopStallLeft : Nat
  /-- Transactions that wait for BNR or for the snoop stall to end (rule R560). -/
  heldBack : List BusTrans
  thermal : Thermal
  /-- The time stamp counter, one for the package (rule R32; log entry 40). -/
  tsc : Nat
  /-- The reference cycles that bus cycles have earned and that have not come yet, in parts of `busCycles` (rule
  R564). -/
  refCredit : Nat
  /-- The model's own: the moment that is being counted, and how many moments there have been. -/
  now : Moment
  moments : Nat
  /-- The model's own: the counters this moment has still to be served to. -/
  turn : List CounterId
  /-- The model's own: the history still to come. -/
  queue : List Input
  /-- The model's own: what the last `read` answered. -/
  readout : Option Nat
  /-- The model's own: how many free values have been drawn. -/
  drawn : Nat
  deriving DecidableEq, Repr

/-! ## Reset -/

/-- An event-select register and its counter at reset (log entry 3): nothing selected. -/
def GpCounter.reset : GpCounter := ⟨false, 0, 0, 0, 0⟩

/-- A fixed-function counter at reset (log entry 3). -/
def FixedCounter.reset : FixedCounter := ⟨0, 0⟩

/-- The registers at reset: zero, off, empty, the mode real mode, the first of those rule R120 names. The source gives
no initial mode (rules R43 and R540): DESIGN CHOICE, unsafe (log entry 3); ILD_STALL reads it (rule R120). -/
def Regs.reset : Regs where
  eax := 0
  ebx := 0
  esp := 0
  rdi := 0
  flags := 0
  instAddr := 0
  cr0 := 0
  cr3 := 0
  fpsw := 0
  fpcw := 0
  daz := false
  ftz := false
  fpStack := []
  mmxState := false
  vectorRegs := []
  mode := .real
  pagingMode := 0

/-- The levels at reset: every structure idle and empty (log entry 3). -/
def Pipe.reset : Pipe where
  storeWaitsForOrder := false
  storePortSnooping := false
  storeStalledBySnoop := false
  disambiguationMispredicted := false
  dividerBusy := false
  otherUnitBusy := false
  loadInProgress := false
  loadBypassPenalty := false
  l2AddressBus := false
  l2DataBus := false
  l2Pending := 0
  misses := []
  lockedLoad := false
  busQueueFull := false
  instQueueFull := false
  fetchStalled := false
  port0 := false
  port1 := false
  port2 := false
  port3 := false
  port4 := false
  port5 := false
  robReadPortStall := false
  partialRegisterStall := false
  flagStall := false
  fpcwStall := false
  branchMissClear := false
  partlyWritten := []

/-- A core at reset with `n` general-purpose counters (log entry 3): nothing selected, not halted, in C0. -/
def Core.reset (n : Nat) : Core where
  gp := List.replicate n .reset
  fixedStarted := false
  fixed0 := .reset
  fixed1 := .reset
  fixed2 := .reset
  halted := false
  cState := 0
  frequency := 0
  voltage := 0
  normalFrequency := 0
  normalVoltage := 0
  intDisabled := false
  intPending := 0
  regs := .reset
  es := ⟨0, false⟩
  ds := ⟨0, false⟩
  fs := ⟨0, false⟩
  gs := ⟨0, false⟩
  espImplicit := false
  lastFpMmx := .neither
  pipe := .reset
  inFlight := ⟨0, 0, 0, 0⟩
  retiredStores := []
  storeBuffer := []
  draining := none
  fences := []
  blocked := ⟨[], []⟩
  predictors := ⟨[], []⟩
  busQueue := []
  portSnoops := 0
  portSnooping := false
  fpswStallLeft := 0
  fpswStalling := false
  tlb := ⟨[], [], []⟩
  pageWalks := 0
  slowDecodeLeft := 0
  slowDecoding := false
  lockedLines := []
  prefetching := []
  l1d := []
  l1i := []

/-- The machine with these parameters before anything has happened. -/
def State.initial (p : Params) : State where
  params := p
  core0 := .reset p.nGp
  core1 := .reset p.nGp
  l2 := []
  bus := ⟨[], [], [], [], [], []⟩
  bnrLeft := 0
  snoopStallLeft := 0
  heldBack := []
  thermal := ⟨0, false⟩
  tsc := 0
  refCredit := 0
  now := .quiet
  moments := 0
  turn := []
  queue := []
  readout := none
  drawn := 0

/-- The machine right after reset. The source gives no reset value for any state (rules R43 and R540); every value here
is the model's (log entries 1 to 3), except that no counter has an event selected (rule R43). -/
def State.reset : State := .initial .family

end Sys2Proof.Machine
end

