-- ==== Sys2Proof/Machine/Ops.lean ====
section
/-! DEFINITION. Ops.lean: the named operations over the state: cache lines, cores, counters, `select` and `read`, what a
counter holds (`approx`), what the moment being counted is worth to an event, and which counters are counting.

No instruction of this hardware takes an exception or returns from one: no event rule raises anything and the source
has no trap mechanism (rules R500 and R512, D16). The shared operation that every instruction ends in is `addTo`. -/

namespace Sys2Proof.Machine

/-! ## Cache lines (rules R41 and R79) -/

/-- The state of a line; a line not listed is in state I. -/
def lineState (m : LineMap) (n : Nat) : LineState := (m.lookup n).getD .i

/-- Puts a line into a state and keeps the canonical form: a line in state I is not listed. -/
def setLine : LineMap → Nat → LineState → LineMap
  | [], n, st => if st = .i then [] else [(n, st)]
  | (k, v) :: rest, n, st =>
    if n < k then (if st = .i then (k, v) :: rest else (n, st) :: (k, v) :: rest)
    else if n = k then (if st = .i then rest else (n, st) :: rest)
    else (k, v) :: setLine rest n st

/-- The canonical form: line numbers strictly rising, no line in state I. -/
def linesWf : LineMap → Bool
  | [] => true
  | (k, v) :: rest => v ≠ .i && rest.all (fun e => k < e.1) && linesWf rest

/-! ## Cores and counters -/

/-- The cores of the package (rule R524). -/
def State.cores (s : State) : List CoreId := if s.params.nCores = 1 then [.c0] else [.c0, .c1]

/-- A core's state. -/
def State.core (s : State) (x : CoreId) : Core :=
  match x with
  | .c0 => s.core0
  | .c1 => s.core1

/-- Replaces a core's state. -/
def State.setCore (s : State) (x : CoreId) (c : Core) : State :=
  match x with
  | .c0 => { s with core0 := c }
  | .c1 => { s with core1 := c }

/-- A fixed-function counter of a core. -/
def Core.fixedCtr (c : Core) (f : FixedId) : FixedCounter :=
  match f with
  | .ctr0 => c.fixed0
  | .ctr1 => c.fixed1
  | .ctr2 => c.fixed2

/-- Replaces a fixed-function counter of a core. -/
def Core.setFixedCtr (c : Core) (f : FixedId) (v : FixedCounter) : Core :=
  match f with
  | .ctr0 => { c with fixed0 := v }
  | .ctr1 => { c with fixed1 := v }
  | .ctr2 => { c with fixed2 := v }

/-- The address of a fixed-function counter (rules R23 to R25). -/
def FixedId.address (f : FixedId) : Nat :=
  match f with
  | .ctr0 => 0x309
  | .ctr1 => 0x30A
  | .ctr2 => 0x30B

/-- The fixed-function counter at a model-specific register address (rule R84: exactly three entries). -/
def fixedAt (a : Nat) : Option FixedId :=
  match a with
  | 0x309 => some .ctr0
  | 0x30A => some .ctr1
  | 0x30B => some .ctr2
  | _ => none

/-- The register at a model-specific register address: the three fixed-function counters, and `PMC[k]` and `EVTSEL[k]`
at the addresses the parameters give them (rule R84, D4). -/
def registerAt (p : Params) (a : Nat) : Option Register :=
  match fixedAt a with
  | some f => some (.fixed f)
  | none => match p.pmcAddrs.idxOf? a with
    | some k => some (.pmc k)
    | none => (p.evtselAddrs.idxOf? a).map .evtsel

/-- The register word of a selection under EVTSEL_LAYOUT (D4). -/
def evtselWord (p : Params) (e u : Byte) : Nat :=
  e.toNat * 2 ^ p.layout.eventLsb + u.toNat * 2 ^ p.layout.umaskLsb

/-- The event number in a register word under EVTSEL_LAYOUT (D4). -/
def wordEventNum (p : Params) (w : Nat) : Byte := BitVec.ofNat 8 (w / 2 ^ p.layout.eventLsb)

/-- The unit mask in a register word under EVTSEL_LAYOUT (D4). -/
def wordUmask (p : Params) (w : Nat) : Byte := BitVec.ofNat 8 (w / 2 ^ p.layout.umaskLsb)

/-- Whether the core exists (D18). -/
def State.hasCore (s : State) (x : CoreId) : Bool := s.cores.contains x

/-- Whether the counter exists (rules R21 and R23 to R25). -/
def State.hasCounter (s : State) (c : CounterId) : Bool :=
  match c with
  | .gp x k => s.hasCore x && decide (k < (s.core x).gp.length)
  | .fixed x _ => s.hasCore x

/-! ## What a counter holds (rules R13 and R26) -/

/-- `approx(N)`: some value within APPROX_ERR of `N` (rule R13, D7); `N` itself where the bound is 0. Which value is
free (log entry 6). -/
def State.approx (s : State) (n : Nat) : Nat :=
  if s.params.approxErr = 0 then n
  else (n - s.params.approxErr) +
    Config.approxPick s.drawn % (n + s.params.approxErr - (n - s.params.approxErr) + 1)

/-- What a counter with nominal count `N` holds: `approx(N) mod 2^CTR_WIDTH` (rules R21 and R26). -/
def State.held (s : State) (n : Nat) : Nat := s.approx n % 2 ^ s.params.ctrWidth

/-- A free value has been drawn. -/
def State.draw (s : State) : State := { s with drawn := s.drawn + 1 }

/-- A free value has been drawn where APPROX_ERR leaves room for one. -/
def State.drawApprox (s : State) : State := if s.params.approxErr = 0 then s else s.draw

/-- The counter with `n` more counted. -/
def State.bumpGp (s : State) (g : GpCounter) (n : Nat) : GpCounter :=
  { g with nominal := g.nominal + n, pmc := s.held (g.nominal + n) }

/-- The fixed-function counter with `n` more counted. -/
def State.bumpFixed (s : State) (g : FixedCounter) (n : Nat) : FixedCounter :=
  { g with nominal := g.nominal + n, value := s.held (g.nominal + n) }

/-- Adds `n` to the nominal count of a counter, and the counter then holds `approx(N) mod 2^CTR_WIDTH`: the only update
an event makes (rules R12, R26 and R27). Adding 0 changes nothing. -/
def State.addTo (s : State) (c : CounterId) (n : Nat) : State :=
  if n = 0 then s
  else match c with
    | .gp x k => match (s.core x).gp[k]? with
      | none => s
      | some g => (s.setCore x { s.core x with gp := (s.core x).gp.set k (s.bumpGp g n) }).drawApprox
    | .fixed x f => (s.setCore x ((s.core x).setFixedCtr f (s.bumpFixed ((s.core x).fixedCtr f) n))).drawApprox

/-! ## `select` and `read` (rule R27) -/

/-- Whether a counter's selection is one the tables list, its unit mask accepted (rules R112 to R114). -/
def GpCounter.listed (g : GpCounter) (p : Params) : Bool :=
  g.selected && (decodeSelection p g.eventNum g.umask).isSome

/-- The answer of `read` is a known value. -/
def State.answers (s : State) (v : Nat) : State := { s with readout := some v }

/-- The answer of `read` is any value of CTR_WIDTH bits (rules R43 and R112): a free value (log entry 4). -/
def State.answersAny (s : State) : State :=
  { s with readout := some (Config.anyValue s.drawn % 2 ^ s.params.ctrWidth), drawn := s.drawn + 1 }

/-- `read(c)` of a counter that exists: the value of the counter; any value where nothing is known of it. -/
def State.readCounter (s : State) (c : CounterId) : State :=
  match c with
  | .gp x k => match (s.core x).gp[k]? with
    | none => s
    | some g => if g.listed s.params then s.answers g.pmc else s.answersAny
  | .fixed x f => if (s.core x).fixedStarted then s.answers ((s.core x).fixedCtr f).value else s.answersAny

/-- `select(i, EventNum, Umask)`: writes `EVTSEL[i]` and sets `PMC[i]` and the nominal count to 0 (rule R27). Any pair
may be selected (rule R112). -/
def State.selectEvent (s : State) (x : CoreId) (k : Nat) (e u : Byte) : State :=
  s.setCore x { s.core x with gp := (s.core x).gp.set k ⟨true, e, u, 0, 0⟩ }

/-- The start-of-counting point of a core's fixed-function counters, which sets them to 0 (rule R43, D11). -/
def State.startFixedCounters (s : State) (x : CoreId) : State :=
  s.setCore x { s.core x with fixedStarted := true, fixed0 := ⟨0, 0⟩, fixed1 := ⟨0, 0⟩, fixed2 := ⟨0, 0⟩ }

/-! ## Clocks -/

/-- The cycle of the clock a row does not name, for a counter of core `x` (rule R14 (d), D8). -/
def unnamedTick (s : State) (x : CoreId) : Tick :=
  match s.params.unnamedClock with
  | .core => .core x
  | .bus => .bus
  | .ref => .ref

/-- What a cycle takes off the stalls of a core that last a number of cycles: the slow length decoder (rule R551), the
store port used by snoops for the other core (rules R79 and R207), writes of the FPU status word (rules R382 and R383).
-/
def Core.workOff (c : Core) : Core :=
  { c with
    slowDecoding := decide (0 < c.slowDecodeLeft)
    slowDecodeLeft := c.slowDecodeLeft - 1
    portSnooping := decide (0 < c.portSnoops)
    portSnoops := c.portSnoops - 1
    fpswStalling := decide (0 < c.fpswStallLeft)
    fpswStallLeft := c.fpswStallLeft - 1 }

/-- The cores work off their stalls in the cycles of the clock that the rows counting those stalls do not name (D8). -/
def State.workOff (s : State) (t : Tick) : State :=
  { s with
    core0 := if unnamedTick s .c0 = t then s.core0.workOff else s.core0
    core1 := if unnamedTick s .c1 = t then s.core1.workOff else s.core1 }

/-! ## Serving a moment to the counters -/

/-- The counters of a core that are counting: those with a selection, and the fixed-function counters once started. -/
def Core.listening (x : CoreId) (c : Core) : List CounterId :=
  ((List.range c.gp.length).filter fun k => (c.gp[k]?).any (·.selected)).map (.gp x ·) ++
    (if c.fixedStarted then [.fixed x .ctr0, .fixed x .ctr1, .fixed x .ctr2] else [])

/-- The counters that are counting. -/
def State.listening (s : State) : List CounterId := s.cores.flatMap fun x => (s.core x).listening x

/-- A moment of the history begins: it is served to every counter that is counting (rules R503 and R513: no counter
pauses, and each counts independently). -/
def State.begin (s : State) (m : Moment) : State :=
  { s with now := m, moments := s.moments + 1, turn := s.listening }

/-- Inputs that follow at once on what has just happened. -/
def State.followedBy (s : State) (l : List Input) : State := { s with queue := l ++ s.queue }

/-- The event a counter is to count (rules R21, R114 and R117): its selection decoded, or the event it is wired to. -/
def State.fetch (s : State) (c : CounterId) : Option Instr :=
  match c with
  | .gp x k => ((s.core x).gp[k]?).bind fun g =>
      if g.selected then decodeWith s.params.umaskAllRef g.eventNum g.umask else none
  | .fixed _ f => decodeMsr f.address

/-- The counter has been served. -/
def State.served (s : State) (rest : List CounterId) : State := { s with turn := rest }

/-- The value of an open point in this moment: free (log entry 5). -/
def State.unstated (s : State) (q : OpenPoint) : Bool := Config.unstated q s.moments

/-- What this moment is worth to an event that counts occurrences in core `x`. -/
def State.onOcc (s : State) (x : CoreId) (worth : Occ → Nat) : Nat :=
  match s.now with
  | .occ y o => if y = x then worth o else 0
  | _ => 0

/-- What this moment is worth to an event that counts what the state made of an input in core `x`. -/
def State.onFound (s : State) (x : CoreId) (worth : Found → Nat) : Nat :=
  match s.now with
  | .found y f => if y = x then worth f else 0
  | _ => 0

/-- What this moment is worth to an event that counts such occurrences in whichever core they are. -/
def State.onFoundIn (s : State) (worth : CoreId → Found → Nat) : Nat :=
  match s.now with
  | .found y f => worth y f
  | _ => 0

/-- What this moment is worth to an event that counts occurrences of the package or the bus. -/
def State.onSys (s : State) (worth : SysOcc → Nat) : Nat :=
  match s.now with
  | .sys o => worth o
  | _ => 0

/-- What this moment is worth to an event that counts at every core cycle of core `x` (rule R14 (a)). -/
def State.onCoreCycle (s : State) (x : CoreId) (worth : Nat) : Nat := if s.now = .tick (.core x) then worth else 0

/-- What this moment is worth to an event that counts at every bus cycle (rule R14 (b)). -/
def State.onBusCycle (s : State) (worth : Nat) : Nat := if s.now = .tick .bus then worth else 0

/-- What this moment is worth to an event that counts at every reference cycle (rule R14 (c)). -/
def State.onRefCycle (s : State) (worth : Nat) : Nat := if s.now = .tick .ref then worth else 0

/-- What this moment is worth to an event that counts at every cycle of the clock its row does not name (rule R14 (d),
D8). -/
def State.onCycle (s : State) (x : CoreId) (worth : Nat) : Nat :=
  match s.params.unnamedClock with
  | .core => s.onCoreCycle x worth
  | .bus => s.onBusCycle worth
  | .ref => s.onRefCycle worth

/-- An event of Table A-1 or A-3 counts on a general-purpose counter and on no other (rules R8 and R543): the counter of
core `x` being served gains what the moment is worth to the event. Nothing is raised (rule R500). -/
def countGp (s : State) (worth : CoreId → Nat) : Host.Outcome State Fault Refusal :=
  match s.turn with
  | .gp x k :: _ => .next (s.addTo (.gp x k) (worth x))
  | _ => .next s

/-- An event with qualifier fields: counts with the settings of its unit mask. A unit mask the tables do not accept
selects no event (rule R114): nothing is counted, and a read of the counter answers any value (`GpCounter.listed`). -/
def countQualified (s : State) (qs : List Qualifier) (u : Byte) (worth : Settings → CoreId → Nat) :
    Host.Outcome State Fault Refusal :=
  match decodeSettings s.params qs u with
  | some q => countGp s (worth q)
  | none => .next s

/-- An event of Table A-2 counts on the fixed-function counter it is wired to and on no other (rule R117). -/
def countFixed (s : State) (f : FixedId) (worth : CoreId → Nat) : Host.Outcome State Fault Refusal :=
  match s.turn with
  | .fixed x g :: _ => if g = f then .next (s.addTo (.fixed x g) (worth x)) else .next s
  | _ => .next s

end Sys2Proof.Machine
end

