-- ==== Sys2Proof/Machine/Operands.lean ====
section
/-! DEFINITION. Operands.lean: the qualifier predicates of rule R16 and the forms of access the event conditions speak of
(rules R61 to R68). -/

namespace Sys2Proof

open Machine

/-! ## Qualifier predicates (rule R16) -/

/-- `core_sel(y)` for a counter of core `x`: SELF is true of the counting core only, BOTH_CORE always. -/
def Settings.coreSel (q : Settings) (x y : CoreId) : Bool := q.core = .bothCore || y = x

/-- `agent_sel(a)`. -/
def Settings.agentSel (q : Settings) (a : Agent) : Bool := q.agent = .allAgents || a = .thisProcessor

/-- `pf_sel(r)` for a request that is, or is not, an L2 hardware prefetch request. -/
def Settings.pfSel (q : Settings) (hwPrefetch : Bool) : Bool :=
  match q.prefetch with
  | .demand => !hwPrefetch
  | .hwPrefetch => hwPrefetch
  | .both => true

/-- `mesi_sel(st)`. -/
def Settings.mesiSel (q : Settings) (st : LineState) : Bool :=
  match st with
  | .m => q.mesi.m
  | .e => q.mesi.e
  | .s => q.mesi.s
  | .i => q.mesi.i

/-- `snoop_resp_sel(t)`. -/
def Settings.snoopRespSel (q : Settings) (t : SnoopResp) : Bool := q.snoopResp.contains t

/-- `snoop_type_sel(t)`. -/
def Settings.snoopTypeSel (q : Settings) (t : SnoopKind) : Bool := q.snoopType.contains t

end Sys2Proof

namespace Sys2Proof.Machine

/-- The cores a core setting selects for a counter of core `x`. -/
def State.selectedCores (s : State) (q : Settings) (x : CoreId) : List CoreId :=
  if q.core = .bothCore then s.cores else [x]

/-- `core_sel` and `agent_sel` of what an agent does for a core of its own, or for none. SELF selects the counting core
and nothing else, so of this processor it leaves out what is done for no core (DEDUCED from rule R16, "true only of the
core whose counter is counting"; log entry 50). Under SELF and ALL_AGENTS the source does not say what is counted of
another agent: open (rule R267; log entry 5). -/
def State.busSel (s : State) (q : Settings) (x : CoreId) (a : Agent) (core : Option CoreId) : Bool :=
  q.agentSel a && match q.core, a with
    | .bothCore, _ => true
    | .self, .thisProcessor => core = some x
    | .self, .another _ => s.unstated .otherAgentUnderSelf

/-! ## Accesses (rules R64 to R67) -/

/-- The address of the last byte an access touches. -/
def Access.lastByte (a : Access) : Nat := a.addr + a.size - 1

/-- The access spans two blocks of `n` bytes. -/
def Access.spans (a : Access) (n : Nat) : Bool := a.addr / n ≠ a.lastByte / n

/-- A split access: it spans two cache lines (rule R66). -/
def Access.split (a : Access) (p : Params) : Bool := a.spans p.lineBytes

/-- Aligned to its size (rule R65). -/
def Access.aligned (a : Access) : Bool := a.addr % a.size = 0

/-- The access touches the byte at `n`. -/
def Access.touches (a : Access) (n : Nat) : Bool := a.addr ≤ n && n < a.addr + a.size

/-- All bytes of `a` are bytes of `b`. -/
def Access.within (a b : Access) : Bool := b.addr ≤ a.addr && a.addr + a.size ≤ b.addr + b.size

/-- Some bytes of `a` are bytes of `b` and some are not. -/
def Access.partlyWithin (a b : Access) : Bool :=
  a.addr < b.addr + b.size && b.addr < a.addr + a.size && !a.within b

/-- 4-KByte aliasing: the same offset in different 4-KByte pages (rule R67). -/
def Access.aliases4k (a b : Access) : Bool := a.addr % 4096 = b.addr % 4096 && a.addr / 4096 ≠ b.addr / 4096

/-- A one or two byte load is aligned to the store it reads from: one that begins where the store begins is; of any
other the source does not say what the words mean (rule R65), and the answer is a free value (log entry 17). -/
def Access.alignedTo (load store : Access) : Bool :=
  load.addr = store.addr || Config.alignedToStore (load.addr - store.addr) load.size store.size

/-- The cases (a) to (e) in which LOAD_BLOCK.OVERLAP_STORE lists a load as blocked by a preceding store (rule R202). -/
def overlapBlocks (load store : Access) : Bool :=
  load.partlyWithin store ||
  (load.within store && store.aligned &&
    (((load.size = 1 || load.size = 2) && !load.alignedTo store) ||
      ((load.size = 4 || load.size = 8) && !load.aligned))) ||
  (load.within store && !store.aligned && load.addr ≠ store.addr) ||
  (load.spans 8 && load.size ≠ 16) ||
  load.aliases4k store

/-- The condition of a trigger of LOAD_BLOCK.L1D in core `x` (rule R204); an unlisted trigger has none. Whether
outstanding uncacheable and I/O requests are among the misses that are compared with the maximum rule R204 does not say,
and rule R259 leaves the uncacheable ones out of L1D_PEND_MISS only: the whole list is compared (DESIGN CHOICE, log
entry 59). -/
def State.triggerHolds (s : State) (x : CoreId) (t : L1dTrigger) : Bool :=
  match t with
  | .tooManyMisses => s.params.maxL1dMisses < (s.core x).pipe.misses.length
  | .lineSplit load => load.split s.params
  | .partialRead load => !load.write && (load.memType = .uncacheable || load.memType = .io)
  | .lockedLoad => (s.core x).pipe.lockedLoad
  | .unlisted => true

/-- The cache line a byte lies in. -/
def lineOf (p : Params) (addr : Nat) : Nat := addr / p.lineBytes

/-- A locked access asserts the bus LOCK signal: uncacheable memory, or an operation that spans two cache lines (rule
R68 (b); a page walk from an uncacheable page table does too); otherwise it locks a cache line (rule R68 (a)). -/
def locksBus (p : Params) (a : DataRef) : Bool := a.memType = .uncacheable || a.bytes.split p

/-- A load that is executed at retirement and blocked until then: a split load (rule R66) or an uncacheable one (rule
R61). Whether an I/O access, which rule R62 calls non-cacheable, is such an "uncacheable load" the source does not say:
it is not, though L1D_PEND_MISS takes it for uncacheable (DESIGN CHOICE, log entry 65). -/
def DataRef.executesAtRetirement (a : DataRef) (p : Params) : Bool :=
  !a.write && (a.bytes.split p || a.memType = .uncacheable)

/-- A page of the size of small pages, or of large pages (rules R64 and R293). -/
def CodePage.small (c : CodePage) (p : Params) : Bool := c.bytes = p.smallPage

/-- A large page. -/
def CodePage.large (c : CodePage) (p : Params) : Bool := c.bytes = p.largePage

/-- An L2 request of an L2 hardware prefetcher, as against a demand request (rules R16 and R80). Whether a request of a
page walk (`itlbMiss`, `dtlbMiss`) is a demand request, "a request caused by an instruction's own access, as opposed to
a prefetch; not defined further", rule R17 leaves open: it is one here, being no request of an L2 hardware prefetcher
(DESIGN CHOICE, log entry 69). -/
def L2Req.hwPrefetch (r : L2Req) : Bool := r.kind = .hwPrefetch

/-- Whether a branch is an indirect branch; of a RET and of an indirect CALL the source does not say (rule R305). -/
def State.isIndirect (s : State) (b : Branch) : Bool :=
  match b.kind with
  | .indirect => true
  | .ret => s.unstated .retIsIndirect
  | .indirectCall => s.unstated .callIsIndirect
  | _ => false

/-- The kinds of burst transaction (rule R281); of an implicit writeback the source does not say. -/
def State.isBurst (s : State) (k : BusKind) : Bool :=
  match k with
  | .burstRead _ | .readForOwnership | .explicitWriteback | .writeCombineLine | .unlistedBurst => true
  | .implicitWriteback => s.unstated .implicitWritebackIsBurst
  | _ => false

/-- The kinds of partial transaction (rule R278). -/
def BusKind.isPartial (k : BusKind) : Bool := k = .partialRead || k = .partialWrite

end Sys2Proof.Machine
end

