-- ==== Sys2Proof/Machine/Flags.lean ====
section
/-! DEFINITION. Flags.lean: the conditions that the source computes from flags, modes and prefixes. No event writes a flag
of the processor (rules R12 and R36); these are the conditions that read them. -/

namespace Sys2Proof.Machine

/-- An operation that requires a micro-code assist (rules R222 and R507): SSE with a denormal input and DAZ off, or an
underflow result and FTZ off; X87 with a NaN or denormal loaded or used as input from memory, a division by 0, or an
underflow output. -/
def assistRequired (daz ftz : Bool) (o : FpOp) : Bool :=
  if o.x87 then o.nanOrDenormalLoaded || o.divideByZero || o.underflow
  else (o.denormalInput && !daz) || (o.underflow && !ftz)

/-- The modes in which an address override prefix before a modr/m uses the slow decoder (rule R120). -/
def Mode.slowAddressPrefix (m : Mode) : Bool := m ≠ .unnamed

/-- The instruction length decoder uses the slow decoder (rules R120 and R299). -/
def slowDecoderUsed (m : Mode) (d : LengthDecode) : Bool :=
  (d.prefix66 && d.immediate) || (d.prefix67 && d.modrm && m.slowAddressPrefix)

/-- The two conditions under which a partial flag register stall may occur (rules R36 and R381): the instruction
modifies some but not all of the flags, and the next one, which depends on flags, depends on one it did not modify. -/
def partialFlagStallPossible (allFlags modified needed : List Nat) : Bool :=
  modified.any allFlags.contains && !allFlags.all modified.contains && needed.any fun f => !modified.contains f

/-- A transition that EIST_TRANS describes, made from C state `c` (rules R30 and R245): only from C0; an EIST transition
where it includes a frequency change; a TM2 transition; a transition to a higher-numbered C state. -/
def transitionCounted (c : Nat) (t : Transition) : Bool :=
  c = 0 && match t.kind with
    | .eist => t.frequency.isSome
    | .tm2 => true
    | .cState n => decide (c < n)

/-- A temperature trips the processor when it exceeds the threshold (rule R31). -/
def exceedsTrip (p : Params) (temperature : Nat) : Bool := p.tripThreshold < temperature

/-- The check made every millisecond returns to normal when the temperature is below the threshold (rule R31). -/
def belowTrip (p : Params) (temperature : Nat) : Bool := temperature < p.tripThreshold

/-- What a frequency or a voltage is reduced to after a thermal trip: a lower one, which the source does not name (rule
R31; log entry 23). -/
def reduced (f : Nat → Nat) (n : Nat) : Nat := if n = 0 then 0 else f n % n

/-- The state of a line of this core's L1 data cache after a snoop for the other core (rules R79 and R285): a line in M
stays in M and changes at a later opportunity; of the others, a read typically takes E to S and a read for ownership E
or S to I, and `after` is the state the line gets where that is not the typical one (log entry 12). -/
def afterCoreSnoop (k : SnoopKind) (after : Option LineState) (st : LineState) : LineState :=
  match k, st with
  | _, .m => .m
  | .read, .e => after.getD .s
  | .readForOwnership, .e => after.getD .i
  | .readForOwnership, .s => after.getD .i
  | _, st => after.getD st

/-- An interrupt is taken only while one is pending and interrupts are not disabled (rule R504). Whether some
interrupts cannot be disabled the source does not say: here none is exempt, and every interrupt waits while interrupts
are disabled (DESIGN CHOICE, log entry 22). -/
def interruptTakeable (c : Core) : Bool := !c.intDisabled && decide (0 < c.intPending)

/-- Execution does not go on: the store buffer is being emptied first (rule R69; log entry 44). The stalls that
RAT_STALLS.PARTIAL_CYCLES, RAT_STALLS.FLAGS, RAT_STALLS.FPSW and RESOURCE_STALLS.FPCW count are no such case: what they
hold back the source does not say, and here they hold back nothing, so that instructions enter and execute and loads are
made while `partialRegisterStall`, `flagStall`, `fpswStalling` or `fpcwStall` is true (rules R380 to R383 and R397;
DESIGN CHOICE, log entry 58). Nor is the halt state, in which a core "does not run": what that holds back the source
does not say (rules R17 and R28), and here it is nothing (DESIGN CHOICE, log entry 38). -/
def Core.executionHeld (c : Core) : Bool := c.draining.isSome

/-- An instruction can enter the out-of-order pipeline: no limit is reached (rules R394 to R396), no branch
misprediction is being cleared (rule R398), no ROB read port stall occurs (rule R379) and execution goes on (rule R69).
The two cycles for which a write of the FPU status word stalls keep none out, nor do the other stalls of log entry 58
(rules R380 to R383 and R397; DESIGN CHOICE), nor does the halt state (rule R17; DESIGN CHOICE, log entry 38). Of the
stalls of RESOURCE_STALLS.LD_ST rule R396 does not say what they hold back: at LOAD_LIMIT only loads are kept out, at
STORE_LIMIT only stores, and while an instruction waits for all previous stores (case (c)) no other is kept from
entering or executing (DESIGN CHOICE, log entry 71). -/
def Core.canEnter (c : Core) (p : Params) (load store : Bool) : Bool :=
  !c.executionHeld &&
  c.inFlight.retirement < p.robLimit && c.inFlight.execution < p.rsLimit &&
    (!load || c.inFlight.loads < p.loadLimit) && (!store || c.inFlight.stores < p.storeLimit) &&
    !c.pipe.branchMissClear && !c.pipe.robReadPortStall

/-- A transaction for a cache line of a set can move to the bus queue: not while the queue is full or holds an entry for
a line of the same set (rules R40 (f) and R243). -/
def Core.canQueue (c : Core) (set : Nat) : Bool := !c.pipe.busQueueFull && !c.busQueue.contains (.line set)

/-- A new transaction can be submitted on the bus: not while BNR is asserted, and not, where it requires a snoop
response, during a snoop stall (rule R560). -/
def State.canSubmit (s : State) (t : BusTrans) : Bool :=
  s.bnrLeft = 0 && (!t.needsSnoop || s.snoopStallLeft = 0)

end Sys2Proof.Machine
end

