-- ==== Sys2Proof/Machine/Worth.lean ====
section
/-! DEFINITION. Worth.lean: what a moment is worth to the families of events that share a condition. Each function gives the
number that the nominal count of an event gains in the moment being counted (rule R12). -/

namespace Sys2Proof.Machine

/-! ## Clocks and the halt state (rules R28, R247 to R249) -/

/-- A core cycle in which the core is not in the halt state. -/
def State.unhaltedCoreCycles (s : State) (x : CoreId) : Nat := s.onCoreCycle x (!(s.core x).halted).toNat

/-- A bus cycle in which the core is not in the halt state. -/
def State.unhaltedBusCycles (s : State) (x : CoreId) : Nat := s.onBusCycle (!(s.core x).halted).toNat

/-- A core is halted while the other core is not (rules R28, R244 and R288). -/
def State.haltedAlone (s : State) (y : CoreId) : Bool :=
  s.hasCore y.other && (s.core y).halted && !(s.core y.other).halted

/-- The other core on the processor is halted; on a processor with one core the source does not say (rule R249). -/
def State.otherHalted (s : State) (x : CoreId) : Bool :=
  if s.params.nCores = 1 then s.unstated .noOtherCore else (s.core x.other).halted

/-! ## Retirement (rules R334 to R345) -/

/-- The instructions of core `x` retired in this moment that satisfy a condition: an instruction retires with its last
micro-op. -/
def State.onRetired (s : State) (x : CoreId) (p : RetiredInst → Bool) : Nat :=
  s.onFound x fun
    | .retired u => u.completes.countP p
    | _ => 0

/-- The branch instructions of core `x` retired in this moment whose outcome satisfies a condition. -/
def State.onRetiredBranch (s : State) (x : CoreId) (p : BranchOutcome → Bool) : Nat := s.onRetired x (·.branch.any p)

/-- A micro-op of core `x` retired whose fusion satisfies a condition. -/
def State.onUop (s : State) (x : CoreId) (p : Option Fusion → Bool) : Nat :=
  s.onFound x fun
    | .retired u => (p u.fusion).toNat
    | _ => 0

/-- A floating-point operation retired that X87_OPS_RETIRED.ANY counts: computational, no load or store, no cause of a
trap or an assist (rule R339). -/
def X87Op.counted (o : X87Op) : Bool := o.computational && !o.loadOrStore && !o.causedTrapOrAssist

/-- Whether a load that may be blocked counts: the event "might not be counted if the load is blocked" (rules R370 and
R372). -/
def State.countsBlocked (s : State) (l : RetiredLoad) (q : OpenPoint) : Bool := !l.blocked || s.unstated q

/-- A load retired causes the event `i` of MEM_LOAD_RETIRED (rules R369 to R373): it is from cacheable memory, no
software prefetch, and missed what the row names; a line miss is one that started the fetch of the line. Loads from
write through and from write combine memory are left out: rule R61 says only of L1D_PEND_MISS that they are no cacheable
demand requests (DESIGN CHOICE, log entry 16). A split load that misses two lines of which neither is being fetched
counts once in the two line-miss rows, by its one flag, where rules R370 and R372 add 1 for each load and also call the
count the number of lines fetched by retired loads (DESIGN CHOICE, log entry 57). -/
def State.loadCauses (s : State) (i : Instr) (l : RetiredLoad) : Bool :=
  l.memType = .cacheable && !l.softwarePrefetch && match i with
    | .memLoadRetiredL1dMiss => l.missedL1d
    | .memLoadRetiredL1dLineMiss => l.missedL1d && !l.lineInFlight && s.countsBlocked l .blockedL1dLineMiss
    | .memLoadRetiredL2Miss => l.missedL2
    | .memLoadRetiredL2LineMiss => l.missedL2 && !l.busInFlight && s.countsBlocked l .blockedL2LineMiss
    | .memLoadRetiredDtlbMiss => l.missedDtlb && !l.faulted
    | _ => false

/-- A load of core `x` retired that causes the event `i`. -/
def State.onRetiredLoad (s : State) (x : CoreId) (i : Instr) : Nat :=
  s.onOcc x fun
    | .loadRetired l => (s.loadCauses i l).toNat
    | _ => 0

/-- The address a sample of a precise event on core `x` contains in this moment: that of the instruction executed
immediately after the one that caused the event (rule R510). Where the moment is no occurrence of the event, or the
event is not precise, there is none. Branch Misses Retired is the event BR_INST_RETIRED.MISPRED (rules R111 and R146).
No sample buffer is modelled. -/
def State.sampleAddress (s : State) (x : CoreId) (i : Instr) : Option Nat :=
  match s.now with
  | .occ y (.x87Retired o) => if y = x && (i = .x87OpsRetiredAny : Bool) && o.counted then some o.next else none
  | .occ y (.loadRetired l) => if y = x && s.loadCauses i l then some l.next else none
  | .found y (.retired u) =>
    if y = x then match i.event with
      | .brInstRetiredMispred => (u.completes.find? fun r => r.branch.any (·.mispredicted)).map (·.next)
      | .simdInstRetiredAny => (u.completes.find? (·.simdClass.isSome)).map (·.next)
      | _ => none
    else none
  | _ => none

/-! ## Branches executed (rules R300 to R312) -/

/-- A branch instruction of core `x` executed that satisfies a condition; micro-op branches are not counted. -/
def State.onBranch (s : State) (x : CoreId) (p : Branch → Bool) : Nat :=
  s.onOcc x fun
    | .branchExecuted b => (!b.microOp && p b).toNat
    | _ => 0

/-- A CALL, indirect or not. -/
def BranchKind.isCall (k : BranchKind) : Bool := k = .call || k = .indirectCall

/-! ## The L2 cache (rules R236 to R242) -/

/-- An L2 request of a selected core that finds its line in a selected state and satisfies a condition on it and on
whether its line is missing in the L1 data cache of its core. -/
def State.onL2Request (s : State) (q : Settings) (x : CoreId) (p : L2Req → Bool → Bool) : Nat :=
  s.onFoundIn fun
    | y, .l2Request r missed st => (q.coreSel x y && q.mesiSel st && p r missed).toNat
    | _, _ => 0

/-- A read request from the L1 data cache or the L2 prefetchers; of a locked access, of an L1 data prefetch request and
of an access of a page walk the source does not say (rules R77 and R237; log entry 5). A write request is no read
(DEDUCED from rule R240, which lists reads and writes apart; log entry 41). -/
def State.isL2Read (s : State) (k : L2Kind) : Bool :=
  match k with
  | .l1dRead | .hwPrefetch => true
  | .l1dPrefetch => s.unstated .l1dPrefetchIsL2Read
  | .l1dLock => s.unstated .lockedL2Read
  | .itlbMiss => s.unstated .itlbMissIsL2Read
  | .dtlbMiss => s.unstated .dtlbMissIsL2Read
  | .l1dWrite | .ifetch => false

/-- A store operation that requests its data from the L2 cache; of the store of a locked access the source does not say
(rule R238; log entry 5). -/
def State.isL2Store (s : State) (k : L2Kind) : Bool :=
  match k with
  | .l1dWrite => true
  | .l1dLock => s.unstated .lockedL2Store
  | _ => false

/-- A kind of request that L2_RQSTS counts; of an access of a page walk the source does not say (rules R77 and R240). -/
def State.isL2Rqst (s : State) (k : L2Kind) : Bool :=
  match k with
  | .itlbMiss => s.unstated .itlbMissAccess
  | .dtlbMiss => s.unstated .dtlbMissAccess
  | _ => true

/-- A completed demand request of core `x` that finds its line in a state satisfying a condition (rules R143, R144, R241
and R242). At which moment a completed request counts the rules do not say: at the input that makes the request, if it
is one that completes (DESIGN CHOICE, log entry 62). -/
def State.demandRequests (s : State) (x : CoreId) (p : LineState → Bool) : Nat :=
  s.onFound x fun
    | .l2Request r _ st => (r.completed && !r.hwPrefetch && s.isL2Rqst r.kind && p st).toNat
    | _ => 0

/-- L2_NO_REQ counts a core: no L2 request of it is pending, or it is halted while the other core is not: "The event
counts also when one core is halted and the other is not halted" (rules R28 and R244; DEDUCED, log entry 51). -/
def State.l2Idle (s : State) (y : CoreId) : Bool := (s.core y).pipe.l2Pending = 0 || s.haltedAlone y

/-! ## The L1 data cache (rules R250 to R261) -/

/-- A reference to the L1 data cache of core `x` that satisfies a condition on it and on the states of the first and
last line it touches. -/
def State.onDataRef (s : State) (x : CoreId) (p : DataRef → LineState → LineState → Bool) : Nat :=
  s.onFound x fun
    | .dataRef a st1 st2 => (p a st1 st2).toNat
    | _ => 0

/-- `mesi_sel` of the line a reference touches. Where a split access touches two lines and only one is in a selected
state, the source does not say which line counts. -/
def State.mesiOf (s : State) (q : Settings) (first last : LineState) : Bool :=
  if q.mesiSel first = q.mesiSel last then q.mesiSel first else s.unstated .splitLineState

/-- Whether L1D_PEND_MISS counts an outstanding miss (rule R259): requests to write through and write combine memory of
any origin, no uncacheable ones, an I/O access among these (DESIGN CHOICE, log entry 65); of a software prefetch of
cacheable memory, which is no "cacheable demand request" and no hardware prefetch, the source does not say (log entry
5). -/
def State.countsMiss (s : State) (m : Miss) : Bool :=
  match m with
  | .demand .cacheable | .hwPrefetch => true
  | .demand .writeThrough | .demand .writeCombine | .softwarePrefetch .writeThrough
  | .softwarePrefetch .writeCombine => true
  | .demand .uncacheable | .demand .io | .softwarePrefetch .uncacheable | .softwarePrefetch .io => false
  | .softwarePrefetch .cacheable => s.unstated .softwarePrefetchMiss

/-- The number of outstanding misses of core `x` that L1D_PEND_MISS counts. -/
def State.countedMisses (s : State) (x : CoreId) : Nat := (s.core x).pipe.misses.countP s.countsMiss

/-- An L1 data cache prefetch request counts, rejected or not; of one submitted again the source does not say (rule
R266; log entry 5). -/
def State.countsL1dPrefetch (s : State) (resubmitted : Bool) : Bool := !resubmitted || s.unstated .resubmittedPrefetch

/-! ## Bypass (rules R227 and R228) -/

/-- The data an operation of the unit `user` uses was generated by another execution unit; of data that a load has just
brought in the source does not say (rules R40 (o), R227 and R228; log entry 5). -/
def State.generatedElsewhere (s : State) (user source : ExecUnit) : Bool :=
  user ≠ source && (source ≠ .load || s.unstated .loadedDataBypass)

/-! ## The bus (rules R267 to R290) -/

/-- A pending read that BUS_REQUEST_OUTSTANDING counts: a full-line cacheable read of the L1 data cache or the L2
prefetchers; no Read For Ownership and no instruction fetch (rule R267). -/
def PendingRead.counted (r : PendingRead) : Bool :=
  r.fullLine && r.cacheable && !r.readForOwnership && (r.reader = .l1d || r.reader = .l2Prefetcher)

/-- A burst read (rule R272). -/
def BusKind.isBurstRead (k : BusKind) : Bool :=
  match k with
  | .burstRead _ => true
  | _ => false

/-- A bus transaction of a selected core and agent that satisfies a condition. -/
def State.onBusTrans (s : State) (q : Settings) (x : CoreId) (p : BusTrans → Bool) : Nat :=
  s.onSys fun
    | .busTrans t => (s.busSel q x t.agent t.core && p t).toNat
    | _ => 0

/-- Which snoop responses EXT_SNOOP counts (rule R284): this processor's to a transaction of its own, or any. -/
def snoopSeen (q : Settings) (giver requester : Agent) : Bool :=
  q.agent = .allAgents || (giver = .thisProcessor && requester = .thisProcessor)

/-- BUSQ_EMPTY counts a core: it has nothing pending in the bus queue, or it is halted while the other core is not: "It
also counts when the core is halted and the other core is not halted" (rules R28 and R288; log entry 51). -/
def State.busQueueIdle (s : State) (y : CoreId) : Bool := (s.core y).busQueue.isEmpty || s.haltedAlone y

/-- BUSQ_EMPTY counts every selected core. With both cores selected and just one of them counted the source does not say
(rule R288). -/
def State.busQueueEmpty (s : State) (q : Settings) (x : CoreId) : Bool :=
  if (s.selectedCores q x).all s.busQueueIdle then true
  else if (s.selectedCores q x).any s.busQueueIdle then s.unstated .oneBusQueueEmpty
  else false

/-! ## Stalls (rules R315, R379 to R399) -/

/-- The micro-ops dispatched in a cycle: one a port at most (rule R554). -/
def Pipe.dispatched (p : Pipe) : Nat :=
  p.port0.toNat + p.port1.toNat + p.port2.toNat + p.port3.toNat + p.port4.toNat + p.port5.toNat

/-- A RAT stall of any of the four conditions (rule R383). -/
def Core.ratStalled (c : Core) : Bool :=
  c.pipe.robReadPortStall || c.pipe.partialRegisterStall || c.pipe.flagStall || c.fpswStalling

/-- The instructions waiting for retirement reach the limit (rule R394). -/
def State.robFull (s : State) (x : CoreId) : Bool := s.params.robLimit ≤ (s.core x).inFlight.retirement

/-- The instructions waiting for execution reach the limit (rule R395). -/
def State.rsFull (s : State) (x : CoreId) : Bool := s.params.rsLimit ≤ (s.core x).inFlight.execution

/-- Loads or stores in the pipeline reach their limit, or an instruction waits for all previous stores (rule R396). -/
def State.loadStoreLimited (s : State) (x : CoreId) : Bool :=
  s.params.loadLimit ≤ (s.core x).inFlight.loads || s.params.storeLimit ≤ (s.core x).inFlight.stores ||
    !(s.core x).fences.isEmpty

/-- A resource-related stall of any of the five conditions (rule R399). -/
def State.resourceStalled (s : State) (x : CoreId) : Bool :=
  s.robFull x || s.rsFull x || s.loadStoreLimited x || (s.core x).pipe.fpcwStall || (s.core x).pipe.branchMissClear

end Sys2Proof.Machine
end

