-- ==== Sys2Proof/Machine/Architectural.lean ====
section
/-! DEFINITION. Architectural.lean: the meanings of the events of 40_architectural_events.md: the seven architectural events of Table A-1, each a second name of a row of Table A-3.

Each event's condition is that of its rule; the counter being served gains what the moment is worth, nothing else changes
and nothing is raised (rule R18). -/

namespace Sys2Proof.Machine

/-- UnHalted Core Cycles (rule R140): each core cycle in which the core is not in the halt state. -/
def execArchUnhaltedCoreCycles (s : State) : Host.Outcome State Fault Refusal :=
  countGp s fun x => s.unhaltedCoreCycles x

/-- UnHalted Reference Cycles (rule R141): on these processors a bus cycle in which the core is not in the halt
state. -/
def execArchUnhaltedReferenceCycles (s : State) : Host.Outcome State Fault Refusal :=
  countGp s fun x => s.unhaltedBusCycles x

/-- Instruction Retired (rule R142): each instruction that retires. -/
def execArchInstructionRetired (s : State) : Host.Outcome State Fault Refusal :=
  countGp s fun x => s.onRetired x fun _ => true

/-- LLC Reference (rule R143): each completed demand request of this core to the L2, the last-level cache. -/
def execArchLlcReference (s : State) : Host.Outcome State Fault Refusal :=
  countGp s fun x => s.demandRequests x fun _ => true

/-- LLC Misses (rule R144): each completed demand request of this core that misses the L2, the last-level cache. -/
def execArchLlcMisses (s : State) : Host.Outcome State Fault Refusal :=
  countGp s fun x => s.demandRequests x (· = .i)

/-- Branch Instruction Retired (rule R145): each branch instruction retired. -/
def execArchBranchInstructionRetired (s : State) : Host.Outcome State Fault Refusal :=
  countGp s fun x => s.onRetiredBranch x fun _ => true

/-- Branch Misses Retired (rule R146): each mispredicted branch instruction retired. -/
def execArchBranchMissesRetired (s : State) : Host.Outcome State Fault Refusal :=
  countGp s fun x => s.onRetiredBranch x (·.mispredicted)

end Sys2Proof.Machine
end

