-- ==== Sys2Proof/Machine/BranchSimdRetired.lean ====
section
/-! DEFINITION. BranchSimdRetired.lean: the meanings of the events of 48_core_events_c4h_cfh.md: retired branches, interrupts, retired SIMD instructions and loads.

Each event's condition is that of its rule; the counter being served gains what the moment is worth, nothing else changes
and nothing is raised (rule R18). -/

namespace Sys2Proof.Machine

/-- BR_INST_RETIRED.ANY (rule R348): each branch instruction retired. -/
def execBrInstRetiredAny (s : State) : Host.Outcome State Fault Refusal :=
  countGp s fun x => s.onRetiredBranch x fun _ => true

/-- BR_INST_RETIRED.PRED_NOT_TAKEN (rule R349): each branch instruction retired that was correctly predicted to be
not taken. -/
def execBrInstRetiredPredNotTaken (s : State) : Host.Outcome State Fault Refusal :=
  countGp s fun x => s.onRetiredBranch x fun b => !b.mispredicted && !b.taken

/-- BR_INST_RETIRED.MISPRED_NOT_TAKEN (rule R350): each branch instruction retired that was mispredicted and not
taken. -/
def execBrInstRetiredMispredNotTaken (s : State) : Host.Outcome State Fault Refusal :=
  countGp s fun x => s.onRetiredBranch x fun b => b.mispredicted && !b.taken

/-- BR_INST_RETIRED.PRED_TAKEN (rule R351): each branch instruction retired that was correctly predicted to be
taken. -/
def execBrInstRetiredPredTaken (s : State) : Host.Outcome State Fault Refusal :=
  countGp s fun x => s.onRetiredBranch x fun b => !b.mispredicted && b.taken

/-- BR_INST_RETIRED.MISPRED_TAKEN (rule R352): each branch instruction retired that was mispredicted and taken. -/
def execBrInstRetiredMispredTaken (s : State) : Host.Outcome State Fault Refusal :=
  countGp s fun x => s.onRetiredBranch x fun b => b.mispredicted && b.taken

/-- BR_INST_RETIRED.TAKEN (rule R353): each branch instruction retired that was taken. -/
def execBrInstRetiredTaken (s : State) : Host.Outcome State Fault Refusal :=
  countGp s fun x => s.onRetiredBranch x fun b => b.taken

/-- BR_INST_RETIRED.MISPRED (rule R354): each branch instruction retired that was mispredicted. -/
def execBrInstRetiredMispred (s : State) : Host.Outcome State Fault Refusal :=
  countGp s fun x => s.onRetiredBranch x fun b => b.mispredicted

/-- CYCLES_INT_MASKED (rule R355): each cycle in which interrupts are disabled. -/
def execCyclesIntMasked (s : State) : Host.Outcome State Fault Refusal :=
  countGp s fun x => s.onCycle x ((s.core x).intDisabled).toNat

/-- CYCLES_INT_PENDING_AND_MASKED (rule R356): each cycle in which there are pending interrupts and interrupts are
disabled. -/
def execCyclesIntPendingAndMasked (s : State) : Host.Outcome State Fault Refusal :=
  countGp s fun x => s.onCycle x ((s.core x).intDisabled && decide (0 < (s.core x).intPending)).toNat

/-- SIMD_INST_RETIRED.PACKED_SINGLE (rule R357): each SSE packed-single instruction retired. -/
def execSimdInstRetiredPackedSingle (s : State) : Host.Outcome State Fault Refusal :=
  countGp s fun x => s.onRetired x fun r => (r.simdClass = some .packedSingle : Bool)

/-- SIMD_INST_RETIRED.SCALAR_SINGLE (rule R358): each SSE scalar-single instruction retired. -/
def execSimdInstRetiredScalarSingle (s : State) : Host.Outcome State Fault Refusal :=
  countGp s fun x => s.onRetired x fun r => (r.simdClass = some .scalarSingle : Bool)

/-- SIMD_INST_RETIRED.PACKED_DOUBLE (rule R359): each SSE2 packed-double instruction retired. -/
def execSimdInstRetiredPackedDouble (s : State) : Host.Outcome State Fault Refusal :=
  countGp s fun x => s.onRetired x fun r => (r.simdClass = some .packedDouble : Bool)

/-- SIMD_INST_RETIRED.SCALAR_DOUBLE (rule R360): each SSE2 scalar-double instruction retired. -/
def execSimdInstRetiredScalarDouble (s : State) : Host.Outcome State Fault Refusal :=
  countGp s fun x => s.onRetired x fun r => (r.simdClass = some .scalarDouble : Bool)

/-- SIMD_INST_RETIRED.VECTOR (rule R361): each SSE2 vector integer instruction retired. -/
def execSimdInstRetiredVector (s : State) : Host.Outcome State Fault Refusal :=
  countGp s fun x => s.onRetired x fun r => (r.simdClass = some .vectorInteger : Bool)

/-- SIMD_INST_RETIRED.ANY (rule R362): each SIMD instruction retired of any of the five classes. -/
def execSimdInstRetiredAny (s : State) : Host.Outcome State Fault Refusal :=
  countGp s fun x => s.onRetired x fun r => r.simdClass.isSome

/-- HW_INT_RCV (rule R363): each hardware interrupt received, by the core it is attributed to, taken or not. -/
def execHwIntRcv (s : State) : Host.Outcome State Fault Refusal :=
  countGp s fun x => s.onFound x fun | .interruptReceived => 1 | _ => 0

/-- ITLB_MISS_RETIRED (rule R364): each retired instruction that missed the ITLB when it was fetched. -/
def execItlbMissRetired (s : State) : Host.Outcome State Fault Refusal :=
  countGp s fun x => s.onRetired x fun r => r.missedItlb

/-- SIMD_COMP_INST_RETIRED.PACKED_SINGLE (rule R365): each computational SSE packed-single instruction retired. One with
a memory operand counts where its flag says that it is computational (DESIGN CHOICE, log entry 63). -/
def execSimdCompInstRetiredPackedSingle (s : State) : Host.Outcome State Fault Refusal :=
  countGp s fun x => s.onRetired x fun r => (r.simdClass = some .packedSingle : Bool) && r.computational

/-- SIMD_COMP_INST_RETIRED.SCALAR_SINGLE (rule R366): each computational SSE scalar-single instruction retired. One with
a memory operand counts where its flag says that it is computational (DESIGN CHOICE, log entry 63). -/
def execSimdCompInstRetiredScalarSingle (s : State) : Host.Outcome State Fault Refusal :=
  countGp s fun x => s.onRetired x fun r => (r.simdClass = some .scalarSingle : Bool) && r.computational

/-- SIMD_COMP_INST_RETIRED.PACKED_DOUBLE (rule R367): each computational SSE2 packed-double instruction retired. One
with a memory operand counts where its flag says that it is computational (DESIGN CHOICE, log entry 63). -/
def execSimdCompInstRetiredPackedDouble (s : State) : Host.Outcome State Fault Refusal :=
  countGp s fun x => s.onRetired x fun r => (r.simdClass = some .packedDouble : Bool) && r.computational

/-- SIMD_COMP_INST_RETIRED.SCALAR_DOUBLE (rule R368): each computational SSE2 scalar-double instruction retired. One
with a memory operand counts where its flag says that it is computational (DESIGN CHOICE, log entry 63). -/
def execSimdCompInstRetiredScalarDouble (s : State) : Host.Outcome State Fault Refusal :=
  countGp s fun x => s.onRetired x fun r => (r.simdClass = some .scalarDouble : Bool) && r.computational

/-- MEM_LOAD_RETIRED.L1D_MISS (rule R369): each retired load from cacheable memory, not a software prefetch, that
missed the L1 data cache. -/
def execMemLoadRetiredL1dMiss (s : State) : Host.Outcome State Fault Refusal :=
  countGp s fun x => s.onRetiredLoad x .memLoadRetiredL1dMiss

/-- MEM_LOAD_RETIRED.L1D_LINE_MISS (rule R370): each such load that misses the L1 data cache and starts the fetch of
the missing line; where the load is blocked, it is open whether it counts. -/
def execMemLoadRetiredL1dLineMiss (s : State) : Host.Outcome State Fault Refusal :=
  countGp s fun x => s.onRetiredLoad x .memLoadRetiredL1dLineMiss

/-- MEM_LOAD_RETIRED.L2_MISS (rule R371): each retired load from cacheable memory, not a software prefetch, that
missed the L2 cache. -/
def execMemLoadRetiredL2Miss (s : State) : Host.Outcome State Fault Refusal :=
  countGp s fun x => s.onRetiredLoad x .memLoadRetiredL2Miss

/-- MEM_LOAD_RETIRED.L2_LINE_MISS (rule R372): each such load that misses the L2 cache and starts the bus request
for the missing line; where the load is blocked, it is open whether it counts. -/
def execMemLoadRetiredL2LineMiss (s : State) : Host.Outcome State Fault Refusal :=
  countGp s fun x => s.onRetiredLoad x .memLoadRetiredL2LineMiss

/-- MEM_LOAD_RETIRED.DTLB_MISS (rule R373): each retired load from cacheable memory, not a software prefetch, that
missed the DTLB and did not cause a fault. -/
def execMemLoadRetiredDtlbMiss (s : State) : Host.Outcome State Fault Refusal :=
  countGp s fun x => s.onRetiredLoad x .memLoadRetiredDtlbMiss

/-- FP_MMX_TRANS_TO_MMX (rule R374): each first MMX instruction following a floating-point instruction. -/
def execFpMmxTransToMmx (s : State) : Host.Outcome State Fault Refusal :=
  countGp s fun x => s.onFound x fun | .mmxInst afterFloatingPoint => afterFloatingPoint.toNat | _ => 0

/-- FP_MMX_TRANS_TO_FP (rule R375): each first floating-point instruction following an MMX instruction. -/
def execFpMmxTransToFp (s : State) : Host.Outcome State Fault Refusal :=
  countGp s fun x => s.onFound x fun | .fpInst afterMmx => afterMmx.toNat | _ => 0

/-- SIMD_ASSIST (rule R376): each SIMD assist invoked. -/
def execSimdAssist (s : State) : Host.Outcome State Fault Refusal :=
  countGp s fun x => s.onFound x fun | .simdAssist => 1 | _ => 0

/-- SIMD_INSTR_RETIRED (rule R377): each SIMD instruction that retired. -/
def execSimdInstrRetired (s : State) : Host.Outcome State Fault Refusal :=
  countGp s fun x => s.onRetired x fun r => r.simd

/-- SIMD_SAT_INSTR_RETIRED (rule R378): each saturated arithmetic SIMD instruction that retired. Which instructions are
SIMD instructions here the source does not say; the model takes the sense of SIMD_INSTR_RETIRED, so this row counts at
most what that one counts (DESIGN CHOICE, log entry 54). -/
def execSimdSatInstrRetired (s : State) : Host.Outcome State Fault Refusal :=
  countGp s fun x => s.onRetired x fun r => r.simd && r.saturated

end Sys2Proof.Machine
end

