-- ==== Sys2Proof/Machine/BusEvents.lean ====
section
/-! DEFINITION. BusEvents.lean: the meanings of the events of 45_core_events_60h_7fh.md: the bus and snoops.

Each event's condition is that of its rule; the counter being served gains what the moment is worth, nothing else changes
and nothing is raised (rule R18). -/

namespace Sys2Proof.Machine

/-- BUS_REQUEST_OUTSTANDING.(Core and Bus Agents) (rule R267): in each cycle, the number of pending full-line
cacheable read transactions of the L1 data cache or the L2 prefetchers. -/
def execBusRequestOutstanding (u : Byte) (s : State) : Host.Outcome State Fault Refusal :=
  countQualified s [.core, .agent] u fun q x =>
    s.onCycle x (s.bus.pending.countP fun r => r.counted && s.busSel q x r.agent r.core)

/-- BUS_BNR_DRV.(Bus Agents) (rule R268): each BNR signal asserted by a selected agent, with ALL_AGENTS another one too
(DEDUCED, log entry 61). -/
def execBusBnrDrv (u : Byte) (s : State) : Host.Outcome State Fault Refusal :=
  countQualified s [.agent] u fun q _ => s.onSys fun | .bnr a => (q.agentSel a).toNat | _ => 0

/-- BUS_DRDY_CLOCKS.(Bus Agents) (rule R269): each bus cycle in which this agent, or any agent, sends data on the
bus. -/
def execBusDrdyClocks (u : Byte) (s : State) : Host.Outcome State Fault Refusal :=
  countQualified s [.agent] u fun q _ => s.onBusCycle (s.bus.dataSent.any q.agentSel).toNat

/-- BUS_LOCK_CLOCKS.(Core and Bus Agents) (rule R270): each bus cycle in which LOCK is asserted for a selected core
by a selected agent. -/
def execBusLockClocks (u : Byte) (s : State) : Host.Outcome State Fault Refusal :=
  countQualified s [.core, .agent] u fun q x => s.onBusCycle (s.bus.lock.any fun l => s.busSel q x l.1 l.2).toNat

/-- BUS_DATA_RCV.(Core) (rule R271): each bus cycle in which the processor receives data for a selected core. -/
def execBusDataRcv (u : Byte) (s : State) : Host.Outcome State Fault Refusal :=
  countQualified s [.core] u fun q x => s.onBusCycle (s.bus.receiving.any (q.coreSel x)).toNat

/-- BUS_TRANS_BRD.(Core and Bus Agents) (rule R272): each burst read bus transaction, RFOs not included. -/
def execBusTransBrd (u : Byte) (s : State) : Host.Outcome State Fault Refusal :=
  countQualified s [.core, .agent] u fun q x => s.onBusTrans q x fun t => t.kind.isBurstRead

/-- BUS_TRANS_RFO.(Core and Bus Agents) (rule R273): each Read For Ownership bus transaction. -/
def execBusTransRfo (u : Byte) (s : State) : Host.Outcome State Fault Refusal :=
  countQualified s [.core, .agent] u fun q x => s.onBusTrans q x fun t => (t.kind = .readForOwnership : Bool)

/-- BUS_TRANS_WB.(Core and Bus Agents) (rule R274): each explicit writeback bus transaction, implicit writebacks not
counted. -/
def execBusTransWb (u : Byte) (s : State) : Host.Outcome State Fault Refusal :=
  countQualified s [.core, .agent] u fun q x => s.onBusTrans q x fun t => (t.kind = .explicitWriteback : Bool)

/-- BUS_TRANS_IFETCH.(Core and Bus Agents) (rule R275): each instruction fetch full cache line bus transaction. Such a
transaction is a burst read, which rule R81 suggests and does not say outright (DEDUCED, log entry 42). -/
def execBusTransIfetch (u : Byte) (s : State) : Host.Outcome State Fault Refusal :=
  countQualified s [.core, .agent] u fun q x => s.onBusTrans q x fun t => (t.kind = .burstRead .ifu : Bool)

/-- BUS_TRANS_INVALID.(Core and Bus Agents) (rule R276): each invalidate bus transaction. -/
def execBusTransInvalid (u : Byte) (s : State) : Host.Outcome State Fault Refusal :=
  countQualified s [.core, .agent] u fun q x => s.onBusTrans q x fun t => (t.kind = .invalidate : Bool)

/-- BUS_TRANS_PWR.(Core and Bus Agents) (rule R277): each partial write bus transaction. -/
def execBusTransPwr (u : Byte) (s : State) : Host.Outcome State Fault Refusal :=
  countQualified s [.core, .agent] u fun q x => s.onBusTrans q x fun t => (t.kind = .partialWrite : Bool)

/-- BUS_TRANS_P.(Core and Bus Agents) (rule R278): each partial bus transaction, read or write. -/
def execBusTransP (u : Byte) (s : State) : Host.Outcome State Fault Refusal :=
  countQualified s [.core, .agent] u fun q x => s.onBusTrans q x fun t => t.kind.isPartial

/-- BUS_TRANS_IO.(Core and Bus Agents) (rule R279): each completed I/O bus transaction that results from an IN or
OUT instruction. At which moment it is counted the rule does not say: when it is submitted, if it is one that completes
(DESIGN CHOICE, log entry 62). -/
def execBusTransIo (u : Byte) (s : State) : Host.Outcome State Fault Refusal :=
  countQualified s [.core, .agent] u fun q x => s.onBusTrans q x fun t => (t.kind = .io : Bool) && t.completed

/-- BUS_TRANS_DEF.(Core and Bus Agents) (rule R280): each deferred bus transaction, once, the deferral and its
completion being one transaction (rule R81; DESIGN CHOICE, log entries 56 and 62). -/
def execBusTransDef (u : Byte) (s : State) : Host.Outcome State Fault Refusal :=
  countQualified s [.core, .agent] u fun q x => s.onBusTrans q x fun t => (t.kind = .deferred : Bool)

/-- BUS_TRANS_BURST.(Core and Bus Agents) (rule R281): each burst (full cache line) bus transaction. -/
def execBusTransBurst (u : Byte) (s : State) : Host.Outcome State Fault Refusal :=
  countQualified s [.core, .agent] u fun q x => s.onBusTrans q x fun t => s.isBurst t.kind

/-- BUS_TRANS_MEM.(Core and Bus Agents) (rule R282): each memory bus transaction: burst, partial or invalidate. -/
def execBusTransMem (u : Byte) (s : State) : Host.Outcome State Fault Refusal :=
  countQualified s [.core, .agent] u fun q x =>
    s.onBusTrans q x fun t => s.isBurst t.kind || t.kind.isPartial || (t.kind = .invalidate : Bool)

/-- BUS_TRANS_ANY.(Core and Bus Agents) (rule R283): each bus transaction of any kind; its "deferred transaction
completion" is the one transaction of kind `deferred` that BUS_TRANS_DEF counts, at its submission (rule R81; DESIGN
CHOICE, log entries 56 and 62). -/
def execBusTransAny (u : Byte) (s : State) : Host.Outcome State Fault Refusal :=
  countQualified s [.core, .agent] u fun q x => s.onBusTrans q x fun _ => true

/-- EXT_SNOOP.(Bus Agents, Snoop Response) (rule R284): each snoop response of this processor to a transaction of
its own (THIS_AGENT), or seen on the bus (ALL_AGENTS), of a selected type. -/
def execExtSnoop (u : Byte) (s : State) : Host.Outcome State Fault Refusal :=
  countQualified s [.agent, .snoopResp] u fun q _ => s.onSys fun
    | .snoopResponse r giver requester => (q.snoopRespSel r && snoopSeen q giver requester).toNat
    | _ => 0

/-- CMP_SNOOP.(Core, Snoop Type) (rule R285): each snoop of the L1 data cache of a selected core for the other core,
of a selected type. -/
def execCmpSnoop (u : Byte) (s : State) : Host.Outcome State Fault Refusal :=
  countQualified s [.core, .snoopType] u fun q x => s.onFoundIn fun
    | y, .coreSnoop k => (q.coreSel x y && q.snoopTypeSel k).toNat
    | _, _ => 0

/-- BUS_HIT_DRV.(Bus Agents) (rule R286): each bus cycle in which a selected agent drives the HIT# pin. The row says
"the processor drives the HIT# pin" beside `agent_sel(driving agent)`: with ALL_AGENTS any agent that drives it counts
(DESIGN CHOICE, log entry 61). -/
def execBusHitDrv (u : Byte) (s : State) : Host.Outcome State Fault Refusal :=
  countQualified s [.agent] u fun q _ => s.onBusCycle (s.bus.hitDriven.any q.agentSel).toNat

/-- BUS_HITM_DRV.(Bus Agents) (rule R287): each bus cycle in which a selected agent drives the HITM# pin. The row says
"the processor drives the HITM# pin" beside `agent_sel(driving agent)`: with ALL_AGENTS any agent that drives it counts
(DESIGN CHOICE, log entry 61). -/
def execBusHitmDrv (u : Byte) (s : State) : Host.Outcome State Fault Refusal :=
  countQualified s [.agent] u fun q _ => s.onBusCycle (s.bus.hitmDriven.any q.agentSel).toNat

/-- BUSQ_EMPTY.(Core) (rule R288): each cycle in which the selected core has no pending transaction in the bus
queue. -/
def execBusqEmpty (u : Byte) (s : State) : Host.Outcome State Fault Refusal :=
  countQualified s [.core] u fun q x => s.onCycle x (s.busQueueEmpty q x).toNat

/-- SNOOP_STALL_DRV.(Core and Bus Agents) (rule R289): each assertion of the bus snoop stall signal by a selected
core and agent. -/
def execSnoopStallDrv (u : Byte) (s : State) : Host.Outcome State Fault Refusal :=
  countQualified s [.core, .agent] u fun q x => s.onSys fun | .snoopStall a y => (s.busSel q x a y).toNat | _ => 0

/-- BUS_IO_WAIT.(Core) (rule R290): each core cycle in which an IO request of this core (SELF) or of either core
(BOTH_CORE) waits in the bus queue. -/
def execBusIoWait (u : Byte) (s : State) : Host.Outcome State Fault Refusal :=
  countQualified s [.core] u fun q x =>
    s.onCoreCycle x ((s.selectedCores q x).any fun y => (s.core y).busQueue.contains .io).toNat

end Sys2Proof.Machine
end

