-- ==== Sys2Proof/Machine/FixedFunction.lean ====
section
/-! DEFINITION. FixedFunction.lean: the meanings of the events of 41_fixed_function_events.md: the three events wired to the fixed-function counters.

Each event's condition is that of its rule; the counter being served gains what the moment is worth, nothing else changes
and nothing is raised (rule R18). -/

namespace Sys2Proof.Machine

/-- Instr_Retired.Any (rule R150): each instruction that retires, on MSR_PERF_FIXED_CTR0 and on no other counter. -/
def execFixedInstrRetiredAny (s : State) : Host.Outcome State Fault Refusal :=
  countFixed s .ctr0 fun x => s.onRetired x fun _ => true

/-- CPU_CLK_UNHALTED.CORE (rule R151): each core cycle in which the core is not in the halt state, on
MSR_PERF_FIXED_CTR1 and on no other counter. -/
def execFixedCpuClkUnhaltedCore (s : State) : Host.Outcome State Fault Refusal :=
  countFixed s .ctr1 fun x => s.unhaltedCoreCycles x

/-- CPU_CLK_UNHALTED.REF (rule R152): each reference cycle in which the core is not in the halt state, on
MSR_PERF_FIXED_CTR2 and on no other counter. -/
def execFixedCpuClkUnhaltedRef (s : State) : Host.Outcome State Fault Refusal :=
  countFixed s .ctr2 fun x => s.onRefCycle (!(s.core x).halted).toNat

end Sys2Proof.Machine
end

