-- ==== Sys2Proof/Machine/FrontEnd.lean ====
section
/-! DEFINITION. FrontEnd.lean: the meanings of the events of 46_core_events_80h_abh.md: instruction fetch, branches, dispatch, decode, ESP.

Each event's condition is that of its rule; the counter being served gains what the moment is worth, nothing else changes
and nothing is raised (rule R18). -/

namespace Sys2Proof.Machine

/-- L1L_READS (rule R291): each instruction fetch, uncacheable fetches included. -/
def execL1lReads (s : State) : Host.Outcome State Fault Refusal :=
  countGp s fun x => s.onFound x fun | .fetch _ _ => 1 | _ => 0

/-- L1L_MISSES (rule R292): each instruction fetch that misses the IFU or produces a memory request, uncacheable
fetches included. -/
def execL1lMisses (s : State) : Host.Outcome State Fault Refusal :=
  countGp s fun x => s.onFound x fun
    | .fetch f _ => (f.missesIfu || f.memoryRequest || f.uncacheable).toNat
    | _ => 0

/-- ITLB.SMALL_MISS (rule R293): each instruction fetch from a small page that misses the ITLB. -/
def execItlbSmallMiss (s : State) : Host.Outcome State Fault Refusal :=
  countGp s fun x => s.onFound x fun | .fetch f missed => (missed && f.page.small s.params).toNat | _ => 0

/-- ITLB.LARGE_MISS (rule R294): each instruction fetch from a large page that misses the ITLB. -/
def execItlbLargeMiss (s : State) : Host.Outcome State Fault Refusal :=
  countGp s fun x => s.onFound x fun | .fetch f missed => (missed && f.page.large s.params).toNat | _ => 0

/-- ITLB.FLUSH (rule R295): each ITLB flush. -/
def execItlbFlush (s : State) : Host.Outcome State Fault Refusal :=
  countGp s fun x => s.onFound x fun | .itlbFlush => 1 | _ => 0

/-- ITLB.MISSES (rule R296): each instruction fetch from a small or a large page that misses the ITLB. -/
def execItlbMisses (s : State) : Host.Outcome State Fault Refusal :=
  countGp s fun x => s.onFound x fun
    | .fetch f missed => (missed && (f.page.small s.params || f.page.large s.params)).toNat
    | _ => 0

/-- INST_QUEUE.FULL (rule R297): each cycle in which the instruction queue is full. -/
def execInstQueueFull (s : State) : Host.Outcome State Fault Refusal :=
  countGp s fun x => s.onCycle x ((s.core x).pipe.instQueueFull).toNat

/-- CYCLES_L1L_MEM_STALLED (rule R298): each cycle in which an instruction fetch stalls. -/
def execCyclesL1lMemStalled (s : State) : Host.Outcome State Fault Refusal :=
  countGp s fun x => s.onCycle x ((s.core x).pipe.fetchStalled).toNat

/-- ILD_STALL (rule R299): each cycle in which the instruction length decoder uses the slow length decoder. -/
def execIldStall (s : State) : Host.Outcome State Fault Refusal :=
  countGp s fun x => s.onCycle x ((s.core x).slowDecoding).toNat

/-- BR_INST_EXEC (rule R300): each branch instruction executed, retired or not, micro-op branches not included. -/
def execBrInstExec (s : State) : Host.Outcome State Fault Refusal :=
  countGp s fun x => s.onBranch x fun _ => true

/-- BR_MISP_EXEC (rule R301): each mispredicted branch instruction executed. -/
def execBrMispExec (s : State) : Host.Outcome State Fault Refusal :=
  countGp s fun x => s.onBranch x fun b => b.mispredicted

/-- BR_BAC_MISP_EXEC (rule R302): each branch instruction executed that was mispredicted at decoding. -/
def execBrBacMispExec (s : State) : Host.Outcome State Fault Refusal :=
  countGp s fun x => s.onBranch x fun b => b.mispredictedAtDecode

/-- BR_CND_EXEC (rule R303): each conditional branch instruction executed, retired or not. -/
def execBrCndExec (s : State) : Host.Outcome State Fault Refusal :=
  countGp s fun x => s.onBranch x fun b => (b.kind = .conditional : Bool)

/-- BR_CND_MISSP_EXEC (rule R304): each mispredicted conditional branch instruction executed. -/
def execBrCndMisspExec (s : State) : Host.Outcome State Fault Refusal :=
  countGp s fun x => s.onBranch x fun b => (b.kind = .conditional : Bool) && b.mispredicted

/-- BR_IND_EXEC (rule R305): each indirect branch instruction executed. -/
def execBrIndExec (s : State) : Host.Outcome State Fault Refusal :=
  countGp s fun x => s.onBranch x fun b => s.isIndirect b

/-- BR_IND_MISSP_EXEC (rule R306): each mispredicted indirect branch instruction executed. -/
def execBrIndMisspExec (s : State) : Host.Outcome State Fault Refusal :=
  countGp s fun x => s.onBranch x fun b => s.isIndirect b && b.mispredicted

/-- BR_RET_EXEC (rule R307): each RET instruction executed. -/
def execBrRetExec (s : State) : Host.Outcome State Fault Refusal :=
  countGp s fun x => s.onBranch x fun b => (b.kind = .ret : Bool)

/-- BR_RET_MISSP_EXEC (rule R308): each mispredicted RET instruction executed. -/
def execBrRetMisspExec (s : State) : Host.Outcome State Fault Refusal :=
  countGp s fun x => s.onBranch x fun b => (b.kind = .ret : Bool) && b.mispredicted

/-- BR_RET_BAC_MISSP_EXEC (rule R309): each RET instruction executed that was mispredicted at decoding. -/
def execBrRetBacMisspExec (s : State) : Host.Outcome State Fault Refusal :=
  countGp s fun x => s.onBranch x fun b => (b.kind = .ret : Bool) && b.mispredictedAtDecode

/-- BR_CALL_EXEC (rule R310): each CALL instruction executed. -/
def execBrCallExec (s : State) : Host.Outcome State Fault Refusal :=
  countGp s fun x => s.onBranch x fun b => b.kind.isCall

/-- BR_CALL_MISSP_EXEC (rule R311): each mispredicted CALL instruction executed. -/
def execBrCallMisspExec (s : State) : Host.Outcome State Fault Refusal :=
  countGp s fun x => s.onBranch x fun b => b.kind.isCall && b.mispredicted

/-- BR_IND_CALL_EXEC (rule R312): each indirect CALL instruction executed. -/
def execBrIndCallExec (s : State) : Host.Outcome State Fault Refusal :=
  countGp s fun x => s.onBranch x fun b => (b.kind = .indirectCall : Bool)

/-- BR_TKN_BUBBLE_1 (rule R313): each taken branch prediction with a one-cycle penalty that goes to bubble 1; which
of the two is open. -/
def execBrTknBubble1 (s : State) : Host.Outcome State Fault Refusal :=
  countGp s fun x => s.onOcc x fun | .takenBubble => (s.unstated .bubbleOne).toNat | _ => 0

/-- BR_TKN_BUBBLE_2 (rule R314): each taken branch prediction with a one-cycle penalty that goes to bubble 2; which
of the two is open. -/
def execBrTknBubble2 (s : State) : Host.Outcome State Fault Refusal :=
  countGp s fun x => s.onOcc x fun | .takenBubble => (!s.unstated .bubbleOne).toNat | _ => 0

/-- RS_UOPS_DISPATCHED (rule R315): each micro-op dispatched for execution, on whichever of the six ports, in the cycles
of the clock that the six rows of the ports count in, so that it is their sum (rule R554; log entry 28). -/
def execRsUopsDispatched (s : State) : Host.Outcome State Fault Refusal :=
  countGp s fun x => s.onCycle x (s.core x).pipe.dispatched

/-- RS_UOPS_DISPATCHED.PORT0 (rule R316): each cycle in which a micro-op is dispatched on port 0. -/
def execRsUopsDispatchedPort0 (s : State) : Host.Outcome State Fault Refusal :=
  countGp s fun x => s.onCycle x ((s.core x).pipe.port0).toNat

/-- RS_UOPS_DISPATCHED.PORT1 (rule R317): each cycle in which a micro-op is dispatched on port 1. -/
def execRsUopsDispatchedPort1 (s : State) : Host.Outcome State Fault Refusal :=
  countGp s fun x => s.onCycle x ((s.core x).pipe.port1).toNat

/-- RS_UOPS_DISPATCHED.PORT2 (rule R318): each cycle in which a micro-op is dispatched on port 2. -/
def execRsUopsDispatchedPort2 (s : State) : Host.Outcome State Fault Refusal :=
  countGp s fun x => s.onCycle x ((s.core x).pipe.port2).toNat

/-- RS_UOPS_DISPATCHED.PORT3 (rule R319): each cycle in which a micro-op is dispatched on port 3. -/
def execRsUopsDispatchedPort3 (s : State) : Host.Outcome State Fault Refusal :=
  countGp s fun x => s.onCycle x ((s.core x).pipe.port3).toNat

/-- RS_UOPS_DISPATCHED.PORT4 (rule R320): each cycle in which a micro-op is dispatched on port 4. -/
def execRsUopsDispatchedPort4 (s : State) : Host.Outcome State Fault Refusal :=
  countGp s fun x => s.onCycle x ((s.core x).pipe.port4).toNat

/-- RS_UOPS_DISPATCHED.PORT5 (rule R321): each cycle in which a micro-op is dispatched on port 5. -/
def execRsUopsDispatchedPort5 (s : State) : Host.Outcome State Fault Refusal :=
  countGp s fun x => s.onCycle x ((s.core x).pipe.port5).toNat

/-- MACRO_INSTS.DECODED (rule R322): each instruction decoded, executed or retired or not. -/
def execMacroInstsDecoded (s : State) : Host.Outcome State Fault Refusal :=
  countGp s fun x => s.onOcc x fun | .decoded _ _ => 1 | _ => 0

/-- MACRO_INSTS.CISC_DECODED (rule R323): each complex instruction decoded, however many were decoded since
the last cycle (DESIGN CHOICE, log entry 60). -/
def execMacroInstsCiscDecoded (s : State) : Host.Outcome State Fault Refusal :=
  countGp s fun x => s.onOcc x fun | .decoded complex _ => complex.toNat | _ => 0

/-- ESP.SYNCH (rule R324): each time ESP is used explicitly in the address expression of a load or store after it
was used implicitly. -/
def execEspSynch (s : State) : Host.Outcome State Fault Refusal :=
  countGp s fun x => s.onFound x fun | .espSynch => 1 | _ => 0

/-- ESP.ADDITIONS (rule R325): each ESP addition performed automatically by the decoder. -/
def execEspAdditions (s : State) : Host.Outcome State Fault Refusal :=
  countGp s fun x => s.onFound x fun | .espImplicit addition => addition.toNat | _ => 0

end Sys2Proof.Machine
end

