-- ==== Sys2Proof/Machine/L1Data.lean ====
section
/-! DEFINITION. L1Data.lean: the meanings of the events of 44_core_events_40h_4eh.md: the L1 data cache and software prefetch.

Each event's condition is that of its rule; the counter being served gains what the moment is worth, nothing else changes
and nothing is raised (rule R18). -/

namespace Sys2Proof.Machine

/-- L1D_CACHE_LD.(Cache Line State) (rule R250): each data read from cacheable memory that is not a locked read,
finding its line in a selected state. -/
def execL1dCacheLd (u : Byte) (s : State) : Host.Outcome State Fault Refusal :=
  countQualified s [.mesi] u fun q x =>
    s.onDataRef x fun a st1 st2 => !a.write && !a.locked && (a.memType = .cacheable : Bool) && s.mesiOf q st1 st2

/-- L1D_CACHE_ST.(Cache Line State) (rule R251): each data write to cacheable memory that is not a locked write,
finding its line in a selected state. -/
def execL1dCacheSt (u : Byte) (s : State) : Host.Outcome State Fault Refusal :=
  countQualified s [.mesi] u fun q x =>
    s.onDataRef x fun a st1 st2 => a.write && !a.locked && (a.memType = .cacheable : Bool) && s.mesiOf q st1 st2

/-- L1D_CACHE_LOCK.(Cache Line State) (rule R252): each locked data read from cacheable memory, finding its line in
a selected state. -/
def execL1dCacheLock (u : Byte) (s : State) : Host.Outcome State Fault Refusal :=
  countQualified s [.mesi] u fun q x =>
    s.onDataRef x fun a st1 st2 => !a.write && a.locked && (a.memType = .cacheable : Bool) && s.mesiOf q st1 st2

/-- L1D_CACHE_LOCK_DURATION (rule R253): each cycle in which any cache line is locked by any locking instruction. -/
def execL1dCacheLockDuration (s : State) : Host.Outcome State Fault Refusal :=
  countGp s fun x => s.onCycle x (!(s.core x).lockedLines.isEmpty).toNat

/-- L1D_ALL_REF (rule R254): each reference to the L1 data cache that is performed, of any memory type. -/
def execL1dAllRef (s : State) : Host.Outcome State Fault Refusal :=
  countGp s fun x => s.onDataRef x fun _ _ _ => true

/-- L1D_ALL_CACHE_REF (rule R255): the sum of L1D_CACHE_LD, L1D_CACHE_ST and L1D_CACHE_LOCK with all four states
selected. For the four rows write through and write combine memory is no cacheable memory (DEDUCED, log entry 16). -/
def execL1dAllCacheRef (s : State) : Host.Outcome State Fault Refusal :=
  countGp s fun x => s.onDataRef x fun a _ _ => (a.memType = .cacheable : Bool) && !(a.write && a.locked)

/-- L1D_REPL (rule R256): each line brought into the L1 data cache. -/
def execL1dRepl (s : State) : Host.Outcome State Fault Refusal :=
  countGp s fun x => s.onFound x fun | .l1dLineIn _ => 1 | _ => 0

/-- L1D_M_REPL (rule R257): each modified line brought into the L1 data cache. -/
def execL1dMRepl (s : State) : Host.Outcome State Fault Refusal :=
  countGp s fun x => s.onFound x fun | .l1dLineIn modified => modified.toNat | _ => 0

/-- L1D_M_EVICT (rule R258): each modified line evicted from the L1 data cache. -/
def execL1dMEvict (s : State) : Host.Outcome State Fault Refusal :=
  countGp s fun x => s.onFound x fun | .l1dLineOut modified => modified.toNat | _ => 0

/-- L1D_PEND_MISS (rule R259): in each core cycle, the number of outstanding misses of the L1 data cache,
uncacheable requests not counted. -/
def execL1dPendMiss (s : State) : Host.Outcome State Fault Refusal :=
  countGp s fun x => s.onCoreCycle x (s.countedMisses x)

/-- L1D_SPLIT.LOADS (rule R260): each load operation that spans two cache lines. -/
def execL1dSplitLoads (s : State) : Host.Outcome State Fault Refusal :=
  countGp s fun x => s.onDataRef x fun a _ _ => !a.write && a.bytes.split s.params

/-- L1D_SPLIT.STORES (rule R261): each store operation that spans two cache lines. -/
def execL1dSplitStores (s : State) : Host.Outcome State Fault Refusal :=
  countGp s fun x => s.onDataRef x fun a _ _ => a.write && a.bytes.split s.params

/-- SSE_PRE_MISS.NTA (rule R262): each execution of prefetchNTA that missed all cache levels. -/
def execSsePreMissNta (s : State) : Host.Outcome State Fault Refusal :=
  countGp s fun x => s.onOcc x fun | .ssePrefetch .nta missed => missed.toNat | _ => 0

/-- SSE_PRE_MISS.L1 (rule R263): each execution of prefetchT0 that missed all cache levels. -/
def execSsePreMissL1 (s : State) : Host.Outcome State Fault Refusal :=
  countGp s fun x => s.onOcc x fun | .ssePrefetch .t0 missed => missed.toNat | _ => 0

/-- SSE_PRE_MISS.L2 (rule R264): each execution of prefetchT1 or prefetchT2 that missed all cache levels. -/
def execSsePreMissL2 (s : State) : Host.Outcome State Fault Refusal :=
  countGp s fun x => s.onOcc x fun
    | .ssePrefetch .t1 missed => missed.toNat
    | .ssePrefetch .t2 missed => missed.toNat
    | _ => 0

/-- LOAD_HIT_PRE (rule R265): each load sent to the L1 data cache while a software prefetch of the same line is in
flight. -/
def execLoadHitPre (s : State) : Host.Outcome State Fault Refusal :=
  countGp s fun x => s.onFound x fun | .loadSent hits => hits.toNat | _ => 0

/-- L1D_PREFETCH.REQUESTS (rule R266): each request of the L1 data cache to prefetch a line, rejected ones included;
whether one that is submitted again counts again is open (log entry 5). -/
def execL1dPrefetchRequests (s : State) : Host.Outcome State Fault Refusal :=
  countGp s fun x => s.onOcc x fun | .l1dPrefetch _ again => (s.countsL1dPrefetch again).toNat | _ => 0

end Sys2Proof.Machine
end

