-- ==== Sys2Proof/Machine/L2AndClock.lean ====
section
/-! DEFINITION. L2AndClock.lean: the meanings of the events of 43_core_events_21h_3ch.md: the L2 cache, transitions and thermal trips, unhalted cycles.

Each event's condition is that of its rule; the counter being served gains what the moment is worth, nothing else changes
and nothing is raised (rule R18). -/

namespace Sys2Proof.Machine

/-- L2_ADS.(Core) (rule R230): each cycle in which the L2 address bus is in use for an access by a selected core. -/
def execL2Ads (u : Byte) (s : State) : Host.Outcome State Fault Refusal :=
  countQualified s [.core] u fun q x =>
    s.onCycle x ((s.selectedCores q x).any fun y => (s.core y).pipe.l2AddressBus).toNat

/-- L2_DBUS_BUSY_RD.(Core) (rule R231): each cycle in which the L2 data bus transfers data from the L2 cache to a
selected core. -/
def execL2DbusBusyRd (u : Byte) (s : State) : Host.Outcome State Fault Refusal :=
  countQualified s [.core] u fun q x =>
    s.onCycle x ((s.selectedCores q x).any fun y => (s.core y).pipe.l2DataBus).toNat

/-- L2_LINES_IN.(Core, Prefetch) (rule R232): each line allocated in the L2 cache for a request of a selected core
and a selected origin. -/
def execL2LinesIn (u : Byte) (s : State) : Host.Outcome State Fault Refusal :=
  countQualified s [.core, .prefetch] u fun q x => s.onFoundIn fun
    | y, .l2LineIn hw => (q.coreSel x y && q.pfSel hw).toNat
    | _, _ => 0

/-- L2_M_LINES_IN.(Core) (rule R233): each modified line written back from the L1 data cache of a selected core to
the L2 cache. -/
def execL2MLinesIn (u : Byte) (s : State) : Host.Outcome State Fault Refusal :=
  countQualified s [.core] u fun q x => s.onFoundIn fun | y, .modifiedLineToL2 => (q.coreSel x y).toNat | _, _ => 0

/-- L2_LINES_OUT.(Core, Prefetch) (rule R234): each L2 cache line evicted because of a request of a selected core
and a selected origin. -/
def execL2LinesOut (u : Byte) (s : State) : Host.Outcome State Fault Refusal :=
  countQualified s [.core, .prefetch] u fun q x => s.onFoundIn fun
    | y, .l2LineOut hw _ => (q.coreSel x y && q.pfSel hw).toNat
    | _, _ => 0

/-- L2_M_LINES_OUT.(Core, Prefetch) (rule R235): each modified L2 cache line evicted because of a request of a
selected core and a selected origin. -/
def execL2MLinesOut (u : Byte) (s : State) : Host.Outcome State Fault Refusal :=
  countQualified s [.core, .prefetch] u fun q x => s.onFoundIn fun
    | y, .l2LineOut hw modified => (modified && q.coreSel x y && q.pfSel hw).toNat
    | _, _ => 0

/-- L2_IFETCH.(Core, Cache Line State) (rule R236): each instruction cache line request of a selected core to the L2
cache, from cacheable memory, not an ITLB miss access, finding its line in a selected state. -/
def execL2Ifetch (u : Byte) (s : State) : Host.Outcome State Fault Refusal :=
  countQualified s [.core, .mesi] u fun q x => s.onL2Request q x fun r _ => (r.kind = .ifetch && r.cacheable : Bool)

/-- L2_LD.(Core, Prefetch, Cache Line State) (rule R237): each L2 read request from the L1 data cache of a selected
core or from the L2 prefetchers, of a selected origin, finding its line in a selected state. -/
def execL2Ld (u : Byte) (s : State) : Host.Outcome State Fault Refusal :=
  countQualified s [.core, .prefetch, .mesi] u fun q x =>
    s.onL2Request q x fun r _ => q.pfSel r.hwPrefetch && s.isL2Read r.kind

/-- L2_ST.(Core, Cache Line State) (rule R238): each store operation of a selected core that misses the L1 data cache
and requests the data from the L2 cache, finding its line in a selected state; whether the store of a locked access is
one is open (log entry 5). A write request for a line that the L1 data cache holds, in S say, is none (log entry 41). -/
def execL2St (u : Byte) (s : State) : Host.Outcome State Fault Refusal :=
  countQualified s [.core, .mesi] u fun q x => s.onL2Request q x fun r missed => missed && s.isL2Store r.kind

/-- L2_LOCK.(Core, Cache Line State) (rule R239): each locked access of a selected core to a line that misses the L1
data cache, finding its line in a selected state. -/
def execL2Lock (u : Byte) (s : State) : Host.Outcome State Fault Refusal :=
  countQualified s [.core, .mesi] u fun q x => s.onL2Request q x fun r missed => (missed && r.kind = .l1dLock : Bool)

/-- L2_RQSTS.(Core, Prefetch, Cache Line State) (rule R240; log entry 62): each completed L2 request of a selected core
and a selected origin, finding its line in a selected state. -/
def execL2Rqsts (u : Byte) (s : State) : Host.Outcome State Fault Refusal :=
  countQualified s [.core, .prefetch, .mesi] u fun q x =>
    s.onL2Request q x fun r _ => r.completed && q.pfSel r.hwPrefetch && s.isL2Rqst r.kind

/-- L2_RQSTS.SELF.DEMAND.I_STATE (rule R241): each completed demand request of this core that misses the L2 cache.
-/
def execL2RqstsSelfDemandIState (s : State) : Host.Outcome State Fault Refusal :=
  countGp s fun x => s.demandRequests x (· = .i)

/-- L2_RQSTS.SELF.DEMAND.MESI (rule R242): each completed demand request of this core to the L2 cache. -/
def execL2RqstsSelfDemandMesi (s : State) : Host.Outcome State Fault Refusal :=
  countGp s fun x => s.demandRequests x fun _ => true

/-- L2_REJECT_BUSQ.(Core, Prefetch, Cache Line State) (rule R243): each time a pending L2 request that requires a bus
transaction is delayed from moving to the bus queue. A delayed request of a page walk counts too, under DEMAND, since
what a demand request is rule R17 does not define further (DESIGN CHOICE, log entry 69). -/
def execL2RejectBusq (u : Byte) (s : State) : Host.Outcome State Fault Refusal :=
  countQualified s [.core, .prefetch, .mesi] u fun q x => s.onFoundIn fun
    | y, .l2Reject r st => (q.coreSel x y && q.pfSel r.hwPrefetch && q.mesiSel st).toNat
    | _, _ => 0

/-- L2_NO_REQ.(Core) (rule R244): each cycle in which no L2 request is pending from this core (SELF) or from any
core (BOTH_CORE). A core that is halted while the other is not counts as one with none, whatever it has pending
(`State.l2Idle`; rule R28; DEDUCED, log entry 51). -/
def execL2NoReq (u : Byte) (s : State) : Host.Outcome State Fault Refusal :=
  countQualified s [.core] u fun q x =>
    s.onCycle x ((s.selectedCores q x).all s.l2Idle).toNat

/-- EIST_TRANS (rule R245): each transition that includes a frequency change, while the counting core is in C0. -/
def execEistTrans (s : State) : Host.Outcome State Fault Refusal :=
  countGp s fun x => s.onFound x fun | .transition counted => counted.toNat | _ => 0

/-- THERMAL_TRIP (rule R246): each thermal trip. -/
def execThermalTrip (s : State) : Host.Outcome State Fault Refusal :=
  countGp s fun _ => s.onSys fun | .thermalTrip => 1 | _ => 0

/-- CPU_CLK_UNHALTED.CORE_P (rule R247): each core cycle in which the core is not in the halt state. -/
def execCpuClkUnhaltedCoreP (s : State) : Host.Outcome State Fault Refusal :=
  countGp s fun x => s.unhaltedCoreCycles x

/-- CPU_CLK_UNHALTED.BUS (rule R248): each bus cycle in which the core is not in the halt state. -/
def execCpuClkUnhaltedBus (s : State) : Host.Outcome State Fault Refusal :=
  countGp s fun x => s.unhaltedBusCycles x

/-- CPU_CLK_UNHALTED.NO_OTHER (rule R249): each bus cycle in which this core is not halted and the other core on the
processor is. -/
def execCpuClkUnhaltedNoOther (s : State) : Host.Outcome State Fault Refusal :=
  countGp s fun x => s.onBusCycle (!(s.core x).halted && s.otherHalted x).toNat

end Sys2Proof.Machine
end

