-- ==== Sys2Proof/Machine/LoadStore.lean ====
section
/-! DEFINITION. LoadStore.lean: the meanings of the events of 42_core_events_03h_19h.md: load and store blocks, segment loads, software prefetch, DTLB, memory
disambiguation, page walks, floating point, multiply and divide, bypass.

Each event's condition is that of its rule; the counter being served gains what the moment is worth, nothing else changes
and nothing is raised (rule R18). -/

namespace Sys2Proof.Machine

/-- LOAD_BLOCK.STA (rule R200): each time a load is blocked because a preceding store has an address that is not yet
calculated; a load may be blocked more than once. -/
def execLoadBlockSta (s : State) : Host.Outcome State Fault Refusal :=
  countGp s fun x => s.onOcc x fun | .loadBlocked .unknownAddress => 1 | _ => 0

/-- LOAD_BLOCK.STD (rule R201): each time a load is blocked because the data of a preceding store to the same
address is not yet known. -/
def execLoadBlockStd (s : State) : Host.Outcome State Fault Refusal :=
  countGp s fun x => s.onOcc x fun
    | .loadBlocked (.unknownData load store) => (load.addr = store.addr : Bool).toNat
    | _ => 0

/-- LOAD_BLOCK.OVERLAP_STORE (rule R202): each time a load is blocked by a preceding store in one of the cases (a)
to (e), or for a trigger the source does not list. -/
def execLoadBlockOverlapStore (s : State) : Host.Outcome State Fault Refusal :=
  countGp s fun x => s.onOcc x fun
    | .loadBlocked (.overlap load store) => (overlapBlocks load store).toNat
    | .loadBlocked .overlapUnlisted => 1
    | _ => 0

/-- LOAD_BLOCK.UNTIL_RETIRE (rule R203): each time a load operation is blocked until retirement. -/
def execLoadBlockUntilRetire (s : State) : Host.Outcome State Fault Refusal :=
  countGp s fun x => s.onOcc x fun | .loadBlocked (.untilRetire _) => 1 | _ => 0

/-- LOAD_BLOCK.L1D (rule R204): each time a load is blocked by the L1 data cache, for a listed trigger that holds or
one the source does not list. -/
def execLoadBlockL1d (s : State) : Host.Outcome State Fault Refusal :=
  countGp s fun x => s.onOcc x fun | .loadBlocked (.l1d t) => (s.triggerHolds x t).toNat | _ => 0

/-- SB_DRAIN_CYCLES (rule R205): each cycle in which the store buffer is draining. -/
def execSbDrainCycles (s : State) : Host.Outcome State Fault Refusal :=
  countGp s fun x => s.onCycle x ((s.core x).draining.isSome).toNat

/-- STORE_BLOCK_ORDER (rule R206): each cycle in which a store waits for a preceding stored cache line to be
observed by other cores. -/
def execStoreBlockOrder (s : State) : Host.Outcome State Fault Refusal :=
  countGp s fun x => s.onCycle x ((s.core x).pipe.storeWaitsForOrder).toNat

/-- STORE_BLOCK_SNOOP (rule R207): each cycle in which the store port snoops the L1 data cache and a store is
stalled by that snoop. -/
def execStoreBlockSnoop (s : State) : Host.Outcome State Fault Refusal :=
  countGp s fun x =>
    s.onCycle x (((s.core x).pipe.storePortSnooping || (s.core x).portSnooping) &&
      (s.core x).pipe.storeStalledBySnoop).toNat

/-- SEGMENT_REG_LOADS (rule R208): each segment register load operation, speculative ones included. -/
def execSegmentRegLoads (s : State) : Host.Outcome State Fault Refusal :=
  countGp s fun x => s.onFound x fun | .segmentLoad => 1 | _ => 0

/-- SSE_PRE_EXEC.NTA (rule R209): each execution of prefetchNTA. -/
def execSsePreExecNta (s : State) : Host.Outcome State Fault Refusal :=
  countGp s fun x => s.onOcc x fun | .ssePrefetch .nta _ => 1 | _ => 0

/-- SSE_PRE_EXEC.L1 (rule R210): each execution of prefetchT0. -/
def execSsePreExecL1 (s : State) : Host.Outcome State Fault Refusal :=
  countGp s fun x => s.onOcc x fun | .ssePrefetch .t0 _ => 1 | _ => 0

/-- SSE_PRE_EXEC.L2 (rule R211): each execution of prefetchT1 or prefetchT2. -/
def execSsePreExecL2 (s : State) : Host.Outcome State Fault Refusal :=
  countGp s fun x => s.onOcc x fun | .ssePrefetch .t1 _ => 1 | .ssePrefetch .t2 _ => 1 | _ => 0

/-- SSE_PRE_EXEC.STORES (rule R212): each execution of an SSE non-temporal store instruction. -/
def execSsePreExecStores (s : State) : Host.Outcome State Fault Refusal :=
  countGp s fun x => s.onOcc x fun | .nonTemporalStore => 1 | _ => 0

/-- DTLB_MISSES.ANY (rule R213): each memory access that misses the DTLB, speculative accesses included. -/
def execDtlbMissesAny (s : State) : Host.Outcome State Fault Refusal :=
  countGp s fun x => s.onFound x fun | .dtlbLookup _ _ missed => missed.toNat | _ => 0

/-- DTLB_MISSES.MISS_LD (rule R214): each load operation that misses the DTLB, speculative accesses included. -/
def execDtlbMissesMissLd (s : State) : Host.Outcome State Fault Refusal :=
  countGp s fun x => s.onFound x fun | .dtlbLookup .load _ missed => missed.toNat | _ => 0

/-- DTLB_MISSES.L0_MISS_LD (rule R215): each load operation that misses the level 0 DTLB, speculative accesses
included. -/
def execDtlbMissesL0MissLd (s : State) : Host.Outcome State Fault Refusal :=
  countGp s fun x => s.onFound x fun | .dtlbLookup .load missedL0 _ => missedL0.toNat | _ => 0

/-- DTLB_MISSES.MISS_ST (rule R216): each store operation that misses the DTLB, speculative accesses included. -/
def execDtlbMissesMissSt (s : State) : Host.Outcome State Fault Refusal :=
  countGp s fun x => s.onFound x fun | .dtlbLookup .store _ missed => missed.toNat | _ => 0

/-- MEMORY_DISAMBIGUATION.RESET (rule R217): each cycle in which a memory disambiguation misprediction occurs
(90_conflicts.md C9: cycles). -/
def execMemoryDisambiguationReset (s : State) : Host.Outcome State Fault Refusal :=
  countGp s fun x => s.onCycle x ((s.core x).pipe.disambiguationMispredicted).toNat

/-- MEMORY_DISAMBIGUATION.SUCCESS (rule R218): each load that is preceded by a store with an unknown address and is
not blocked. -/
def execMemoryDisambiguationSuccess (s : State) : Host.Outcome State Fault Refusal :=
  countGp s fun x => s.onOcc x fun | .disambiguated => 1 | _ => 0

/-- PAGE_WALKS.COUNT (rule R219): each page walk executed. -/
def execPageWalksCount (s : State) : Host.Outcome State Fault Refusal :=
  countGp s fun x => s.onFound x fun | .pageWalk => 1 | _ => 0

/-- PAGE_WALKS.CYCLES (rule R220): each core cycle in which a page walk is in progress, however many are (D9). -/
def execPageWalksCycles (s : State) : Host.Outcome State Fault Refusal :=
  countGp s fun x => s.onCoreCycle x (decide (0 < (s.core x).pageWalks)).toNat

/-- FP_COMP_OPS_EXE (rule R221): each floating point computational micro-op executed. -/
def execFpCompOpsExe (s : State) : Host.Outcome State Fault Refusal :=
  countGp s fun x => s.onOcc x fun | .fpComputationalUop => 1 | _ => 0

/-- FP_ASSIST (rule R222): each floating point operation executed that required a micro-code assist. -/
def execFpAssist (s : State) : Host.Outcome State Fault Refusal :=
  countGp s fun x => s.onFound x fun | .fpOp assist => assist.toNat | _ => 0

/-- MUL (rule R223): each multiply operation executed, integer or floating point. -/
def execMul (s : State) : Host.Outcome State Fault Refusal :=
  countGp s fun x => s.onOcc x fun | .multiply _ => 1 | _ => 0

/-- DIV (rule R224): each divide operation executed, integer, floating point or square root. -/
def execDiv (s : State) : Host.Outcome State Fault Refusal :=
  countGp s fun x => s.onOcc x fun | .divide _ => 1 | _ => 0

/-- CYCLES_DIV_BUSY (rule R225): each cycle in which the divider is busy with a divide or square root operation. -/
def execCyclesDivBusy (s : State) : Host.Outcome State Fault Refusal :=
  countGp s fun x => s.onCycle x ((s.core x).pipe.dividerBusy).toNat

/-- IDLE_DURING_DIV (rule R226): each cycle in which the divider is busy and no other execution unit or load
operation is in progress. -/
def execIdleDuringDiv (s : State) : Host.Outcome State Fault Refusal :=
  countGp s fun x =>
    s.onCycle x ((s.core x).pipe.dividerBusy && !(s.core x).pipe.otherUnitBusy && !(s.core x).pipe.loadInProgress).toNat

/-- DELAYED_BYPASS_FP (rule R227): each time a floating point operation uses data immediately after a unit other
than floating point generated it; whether a load is such a unit is open (log entry 5). -/
def execDelayedBypassFp (s : State) : Host.Outcome State Fault Refusal :=
  countGp s fun x => s.onOcc x fun | .bypass .floating source => (s.generatedElsewhere .floating source).toNat | _ => 0

/-- DELAYED_BYPASS.SIMD (rule R228): each time a SIMD operation uses data immediately after a unit other than SIMD
generated it; whether a load is such a unit is open (log entry 5). -/
def execDelayedBypassSimd (s : State) : Host.Outcome State Fault Refusal :=
  countGp s fun x => s.onOcc x fun | .bypass .simd source => (s.generatedElsewhere .simd source).toNat | _ => 0

/-- DELAYED_BYPASS.LOAD (rule R229): each delayed bypass penalty cycle that a load operation incurs. -/
def execDelayedBypassLoad (s : State) : Host.Outcome State Fault Refusal :=
  countGp s fun x => s.onCycle x ((s.core x).pipe.loadBypassPenalty).toNat

end Sys2Proof.Machine
end

