-- ==== Sys2Proof/Machine/Retirement.lean ====
section
/-! DEFINITION. Retirement.lean: the meanings of the events of 47_core_events_b0h_c3h.md: SIMD micro-ops, retirement, fusion, pipeline restarts.

Each event's condition is that of its rule; the counter being served gains what the moment is worth, nothing else changes
and nothing is raised (rule R18). -/

namespace Sys2Proof.Machine

/-- SIMD_UOPS_EXEC (rule R326): each SIMD micro-op executed, except MOVQ and MOVD stores from register to memory. -/
def execSimdUopsExec (s : State) : Host.Outcome State Fault Refusal :=
  countGp s fun x => s.onOcc x fun | .simdUop u => (!u.movStore).toNat | _ => 0

/-- SIMD_SAT_UOP_EXEC (rule R327): each SIMD saturated arithmetic micro-op executed. -/
def execSimdSatUopExec (s : State) : Host.Outcome State Fault Refusal :=
  countGp s fun x => s.onOcc x fun | .simdUop u => u.saturated.toNat | _ => 0

/-- SIMD_UOP_TYPE_EXEC.MUL (rule R328): each SIMD packed multiply micro-op executed. -/
def execSimdUopTypeExecMul (s : State) : Host.Outcome State Fault Refusal :=
  countGp s fun x => s.onOcc x fun | .simdUop u => (u.types.contains .mul).toNat | _ => 0

/-- SIMD_UOP_TYPE_EXEC.SHIFT (rule R329): each SIMD packed shift micro-op executed. -/
def execSimdUopTypeExecShift (s : State) : Host.Outcome State Fault Refusal :=
  countGp s fun x => s.onOcc x fun | .simdUop u => (u.types.contains .shift).toNat | _ => 0

/-- SIMD_UOP_TYPE_EXEC.PACK (rule R330): each SIMD pack micro-op executed. -/
def execSimdUopTypeExecPack (s : State) : Host.Outcome State Fault Refusal :=
  countGp s fun x => s.onOcc x fun | .simdUop u => (u.types.contains .pack).toNat | _ => 0

/-- SIMD_UOP_TYPE_EXEC.UNPACK (rule R331): each SIMD unpack micro-op executed. -/
def execSimdUopTypeExecUnpack (s : State) : Host.Outcome State Fault Refusal :=
  countGp s fun x => s.onOcc x fun | .simdUop u => (u.types.contains .unpack).toNat | _ => 0

/-- SIMD_UOP_TYPE_EXEC.LOGICAL (rule R332): each SIMD packed logical micro-op executed. -/
def execSimdUopTypeExecLogical (s : State) : Host.Outcome State Fault Refusal :=
  countGp s fun x => s.onOcc x fun | .simdUop u => (u.types.contains .logical).toNat | _ => 0

/-- SIMD_UOP_TYPE_EXEC.ARITHMETIC (rule R333): each SIMD packed arithmetic micro-op executed. -/
def execSimdUopTypeExecArithmetic (s : State) : Host.Outcome State Fault Refusal :=
  countGp s fun x => s.onOcc x fun | .simdUop u => (u.types.contains .arithmetic).toNat | _ => 0

/-- INST_RETIRED.ANY_P (rule R334): each instruction that retires, on retirement of its last micro-op, in interrupt
handlers too. -/
def execInstRetiredAnyP (s : State) : Host.Outcome State Fault Refusal :=
  countGp s fun x => s.onRetired x fun _ => true

/-- INST_RETIRED.LOADS (rule R335): each instruction retired that contains a load operation. -/
def execInstRetiredLoads (s : State) : Host.Outcome State Fault Refusal :=
  countGp s fun x => s.onRetired x fun r => r.load

/-- INST_RETIRED.STORES (rule R336): each instruction retired that contains a store operation. -/
def execInstRetiredStores (s : State) : Host.Outcome State Fault Refusal :=
  countGp s fun x => s.onRetired x fun r => r.store.isSome

/-- INST_RETIRED.OTHER (rule R337): each instruction retired that contains neither a load nor a store operation. -/
def execInstRetiredOther (s : State) : Host.Outcome State Fault Refusal :=
  countGp s fun x => s.onRetired x fun r => !r.load && r.store.isNone

/-- X87_OPS_RETIRED.FXCH (rule R338): each FXCH instruction retired. -/
def execX87OpsRetiredFxch (s : State) : Host.Outcome State Fault Refusal :=
  countGp s fun x => s.onRetired x fun r => r.fxch

/-- X87_OPS_RETIRED.ANY (rule R339): each floating-point computational operation retired, not loads and stores, not
those that cause traps or assists. -/
def execX87OpsRetiredAny (s : State) : Host.Outcome State Fault Refusal :=
  countGp s fun x => s.onOcc x fun
    | .x87Retired o => o.counted.toNat
    | _ => 0

/-- UOPS_RETIRED.LD_IND_BR (rule R340): each retired micro-op that fused a load with another operation. -/
def execUopsRetiredLdIndBr (s : State) : Host.Outcome State Fault Refusal :=
  countGp s fun x => s.onUop x fun f => (f = some .loadOp || f = some .loadIndirectBranch : Bool)

/-- UOPS_RETIRED.STD_STA (rule R341): each retired micro-op in which store address and store data are fused. -/
def execUopsRetiredStdSta (s : State) : Host.Outcome State Fault Refusal :=
  countGp s fun x => s.onUop x fun f => (f = some .storeAddressData : Bool)

/-- UOPS_RETIRED.MACRO_FUSION (rule R342): each retired micro-op in which a CMP or TEST is fused with a conditional
branch. -/
def execUopsRetiredMacroFusion (s : State) : Host.Outcome State Fault Refusal :=
  countGp s fun x => s.onUop x fun f => (f = some .macroFusion : Bool)

/-- UOPS_RETIRED.FUSED (rule R343): each retired fused micro-op of any of the fusion types. -/
def execUopsRetiredFused (s : State) : Host.Outcome State Fault Refusal :=
  countGp s fun x => s.onUop x fun f => f.isSome

/-- UOPS_RETIRED.NON_FUSED (rule R344): each micro-op retired that was not fused. -/
def execUopsRetiredNonFused (s : State) : Host.Outcome State Fault Refusal :=
  countGp s fun x => s.onUop x fun f => f.isNone

/-- UOPS_RETIRED.ANY (rule R345): each micro-op retired. -/
def execUopsRetiredAny (s : State) : Host.Outcome State Fault Refusal :=
  countGp s fun x => s.onUop x fun _ => true

/-- MACHINE_NUKES.SMC (rule R346): each time a program writes to a code section. -/
def execMachineNukesSmc (s : State) : Host.Outcome State Fault Refusal :=
  countGp s fun x => s.onFound x fun | .nuke .selfModifyingCode => 1 | _ => 0

/-- MACHINE_NUKES.MEM_ORDER (rule R347): each pipeline restart caused by a memory ordering conflict or a memory
disambiguation misprediction. -/
def execMachineNukesMemOrder (s : State) : Host.Outcome State Fault Refusal :=
  countGp s fun x => s.onFound x fun | .nuke .memoryOrder => 1 | .nuke .disambiguation => 1 | _ => 0

end Sys2Proof.Machine
end

