-- ==== Sys2Proof/Machine/Stalls.lean ====
section
/-! DEFINITION. Stalls.lean: the meanings of the events of 49_core_events_d2h_f8h.md: stalls, segment renaming, decoded branches, BACLEARs, prefetches of the DPL.

Each event's condition is that of its rule; the counter being served gains what the moment is worth, nothing else changes
and nothing is raised (rule R18). -/

namespace Sys2Proof.Machine

/-- RAT_STALLS.ROB_READ_PORT (rule R379): each cycle with a ROB read port stall. -/
def execRatStallsRobReadPort (s : State) : Host.Outcome State Fault Refusal :=
  countGp s fun x => s.onCycle x ((s.core x).pipe.robReadPortStall).toNat

/-- RAT_STALLS.PARTIAL_CYCLES (rule R380): each cycle of a partial register stall. -/
def execRatStallsPartialCycles (s : State) : Host.Outcome State Fault Refusal :=
  countGp s fun x => s.onCycle x ((s.core x).pipe.partialRegisterStall).toNat

/-- RAT_STALLS.FLAGS (rule R381): each cycle in which execution stalled for a partial flag register stall or another
reason of this row. -/
def execRatStallsFlags (s : State) : Host.Outcome State Fault Refusal :=
  countGp s fun x => s.onCycle x ((s.core x).pipe.flagStall).toNat

/-- RAT_STALLS.FPSW (rule R382): 2 for each write of the FPU status word. -/
def execRatStallsFpsw (s : State) : Host.Outcome State Fault Refusal :=
  countGp s fun x => s.onFound x fun | .fpswWritten => 2 | _ => 0

/-- RAT_STALLS.ANY (rule R383): each stall cycle due to any of the four conditions, once (D9). -/
def execRatStallsAny (s : State) : Host.Outcome State Fault Refusal :=
  countGp s fun x => s.onCycle x ((s.core x).ratStalled).toNat

/-- SEG_RENAME_STALLS.ES (rule R384): each stall for lack of renaming resources of ES. -/
def execSegRenameStallsEs (s : State) : Host.Outcome State Fault Refusal :=
  countGp s fun x => s.onFound x fun | .segmentStalled r => (r = .es : Bool).toNat | _ => 0

/-- SEG_RENAME_STALLS.DS (rule R385): each stall for lack of renaming resources of DS. -/
def execSegRenameStallsDs (s : State) : Host.Outcome State Fault Refusal :=
  countGp s fun x => s.onFound x fun | .segmentStalled r => (r = .ds : Bool).toNat | _ => 0

/-- SEG_RENAME_STALLS.FS (rule R386): each stall for lack of renaming resources of FS. -/
def execSegRenameStallsFs (s : State) : Host.Outcome State Fault Refusal :=
  countGp s fun x => s.onFound x fun | .segmentStalled r => (r = .fs : Bool).toNat | _ => 0

/-- SEG_RENAME_STALLS.GS (rule R387): each stall for lack of renaming resources of GS. -/
def execSegRenameStallsGs (s : State) : Host.Outcome State Fault Refusal :=
  countGp s fun x => s.onFound x fun | .segmentStalled r => (r = .gs : Bool).toNat | _ => 0

/-- SEG_RENAME_STALLS.ANY (rule R388): each stall for lack of renaming resources of ES, DS, FS or GS. -/
def execSegRenameStallsAny (s : State) : Host.Outcome State Fault Refusal :=
  countGp s fun x => s.onFound x fun | .segmentStalled _ => 1 | _ => 0

/-- SEG_REG_RENAMES.ES (rule R389): each time ES is renamed. -/
def execSegRegRenamesEs (s : State) : Host.Outcome State Fault Refusal :=
  countGp s fun x => s.onFound x fun | .segmentRenamed r => (r = .es : Bool).toNat | _ => 0

/-- SEG_REG_RENAMES.DS (rule R390): each time DS is renamed. -/
def execSegRegRenamesDs (s : State) : Host.Outcome State Fault Refusal :=
  countGp s fun x => s.onFound x fun | .segmentRenamed r => (r = .ds : Bool).toNat | _ => 0

/-- SEG_REG_RENAMES.FS (rule R391): each time FS is renamed. -/
def execSegRegRenamesFs (s : State) : Host.Outcome State Fault Refusal :=
  countGp s fun x => s.onFound x fun | .segmentRenamed r => (r = .fs : Bool).toNat | _ => 0

/-- SEG_REG_RENAMES.GS (rule R392): each time GS is renamed. -/
def execSegRegRenamesGs (s : State) : Host.Outcome State Fault Refusal :=
  countGp s fun x => s.onFound x fun | .segmentRenamed r => (r = .gs : Bool).toNat | _ => 0

/-- SEG_REG_RENAMES.ANY (rule R393): each time ES, DS, FS or GS is renamed. -/
def execSegRegRenamesAny (s : State) : Host.Outcome State Fault Refusal :=
  countGp s fun x => s.onFound x fun | .segmentRenamed _ => 1 | _ => 0

/-- RESOURCE_STALLS.ROB_FULL (rule R394): each cycle in which the instructions waiting for retirement reach
ROB_LIMIT. -/
def execResourceStallsRobFull (s : State) : Host.Outcome State Fault Refusal :=
  countGp s fun x => s.onCycle x (s.robFull x).toNat

/-- RESOURCE_STALLS.RS_FULL (rule R395): each cycle in which the instructions waiting for execution reach RS_LIMIT.
-/
def execResourceStallsRsFull (s : State) : Host.Outcome State Fault Refusal :=
  countGp s fun x => s.onCycle x (s.rsFull x).toNat

/-- RESOURCE_STALLS.LD_ST (rule R396): each cycle in which loads reach LOAD_LIMIT, stores reach STORE_LIMIT, or an
instruction waits for all previous stores to commit. -/
def execResourceStallsLdSt (s : State) : Host.Outcome State Fault Refusal :=
  countGp s fun x => s.onCycle x (s.loadStoreLimited x).toNat

/-- RESOURCE_STALLS.FPCW (rule R397): each cycle in which execution is stalled by a write of the FPU control word.
-/
def execResourceStallsFpcw (s : State) : Host.Outcome State Fault Refusal :=
  countGp s fun x => s.onCycle x ((s.core x).pipe.fpcwStall).toNat

/-- RESOURCE_STALLS.BR_MISS_CLEAR (rule R398): each cycle after a branch misprediction is detected until the branch
and all older micro-ops retire. -/
def execResourceStallsBrMissClear (s : State) : Host.Outcome State Fault Refusal :=
  countGp s fun x => s.onCycle x ((s.core x).pipe.branchMissClear).toNat

/-- RESOURCE_STALLS.ANY (rule R399): each cycle of a resource-related stall of any of the five conditions, once
(D9). -/
def execResourceStallsAny (s : State) : Host.Outcome State Fault Refusal :=
  countGp s fun x => s.onCycle x (s.resourceStalled x).toNat

/-- BR_INST_DECODED (rule R400): each branch instruction decoded. -/
def execBrInstDecoded (s : State) : Host.Outcome State Fault Refusal :=
  countGp s fun x => s.onOcc x fun | .decoded _ branch => branch.toNat | _ => 0

/-- BOGUS_BR (rule R401): each byte sequence mistakenly detected as a taken branch instruction. -/
def execBogusBr (s : State) : Host.Outcome State Fault Refusal :=
  countGp s fun x => s.onOcc x fun | .bogusBranch => 1 | _ => 0

/-- BACLEARs (rule R402): each time the front end is resteered; a bogus branch results in one. -/
def execBaclears (s : State) : Host.Outcome State Fault Refusal :=
  countGp s fun x => s.onOcc x fun | .baclear => 1 | .bogusBranch => 1 | _ => 0

/-- PREF_RQSTS_UP (rule R403): each upward prefetch issued from the DPL to the L2 cache. -/
def execPrefRqstsUp (s : State) : Host.Outcome State Fault Refusal :=
  countGp s fun x => s.onFound x fun | .dplPrefetch d => (d = .upward : Bool).toNat | _ => 0

/-- PREF_RQSTS_DN (rule R404): each downward prefetch issued from the DPL to the L2 cache. -/
def execPrefRqstsDn (s : State) : Host.Outcome State Fault Refusal :=
  countGp s fun x => s.onFound x fun | .dplPrefetch d => (d = .downward : Bool).toNat | _ => 0

end Sys2Proof.Machine
end

