-- ==== Sys2Proof/Machine/Dispatch.lean ====
section
/-! DEFINITION. Dispatch.lean: one arm per instruction, each one direct call of its meaning. -/

namespace Sys2Proof.Machine

def exec (i : Instr) (s : State) : Host.Outcome State Fault Refusal :=
  match i with
  | .archUnhaltedCoreCycles => Sys2Proof.Machine.execArchUnhaltedCoreCycles s
  | .archUnhaltedReferenceCycles => Sys2Proof.Machine.execArchUnhaltedReferenceCycles s
  | .archInstructionRetired => Sys2Proof.Machine.execArchInstructionRetired s
  | .archLlcReference => Sys2Proof.Machine.execArchLlcReference s
  | .archLlcMisses => Sys2Proof.Machine.execArchLlcMisses s
  | .archBranchInstructionRetired => Sys2Proof.Machine.execArchBranchInstructionRetired s
  | .archBranchMissesRetired => Sys2Proof.Machine.execArchBranchMissesRetired s
  | .fixedInstrRetiredAny => Sys2Proof.Machine.execFixedInstrRetiredAny s
  | .fixedCpuClkUnhaltedCore => Sys2Proof.Machine.execFixedCpuClkUnhaltedCore s
  | .fixedCpuClkUnhaltedRef => Sys2Proof.Machine.execFixedCpuClkUnhaltedRef s
  | .loadBlockSta => Sys2Proof.Machine.execLoadBlockSta s
  | .loadBlockStd => Sys2Proof.Machine.execLoadBlockStd s
  | .loadBlockOverlapStore => Sys2Proof.Machine.execLoadBlockOverlapStore s
  | .loadBlockUntilRetire => Sys2Proof.Machine.execLoadBlockUntilRetire s
  | .loadBlockL1d => Sys2Proof.Machine.execLoadBlockL1d s
  | .sbDrainCycles => Sys2Proof.Machine.execSbDrainCycles s
  | .storeBlockOrder => Sys2Proof.Machine.execStoreBlockOrder s
  | .storeBlockSnoop => Sys2Proof.Machine.execStoreBlockSnoop s
  | .segmentRegLoads => Sys2Proof.Machine.execSegmentRegLoads s
  | .ssePreExecNta => Sys2Proof.Machine.execSsePreExecNta s
  | .ssePreExecL1 => Sys2Proof.Machine.execSsePreExecL1 s
  | .ssePreExecL2 => Sys2Proof.Machine.execSsePreExecL2 s
  | .ssePreExecStores => Sys2Proof.Machine.execSsePreExecStores s
  | .dtlbMissesAny => Sys2Proof.Machine.execDtlbMissesAny s
  | .dtlbMissesMissLd => Sys2Proof.Machine.execDtlbMissesMissLd s
  | .dtlbMissesL0MissLd => Sys2Proof.Machine.execDtlbMissesL0MissLd s
  | .dtlbMissesMissSt => Sys2Proof.Machine.execDtlbMissesMissSt s
  | .memoryDisambiguationReset => Sys2Proof.Machine.execMemoryDisambiguationReset s
  | .memoryDisambiguationSuccess => Sys2Proof.Machine.execMemoryDisambiguationSuccess s
  | .pageWalksCount => Sys2Proof.Machine.execPageWalksCount s
  | .pageWalksCycles => Sys2Proof.Machine.execPageWalksCycles s
  | .fpCompOpsExe => Sys2Proof.Machine.execFpCompOpsExe s
  | .fpAssist => Sys2Proof.Machine.execFpAssist s
  | .mul => Sys2Proof.Machine.execMul s
  | .div => Sys2Proof.Machine.execDiv s
  | .cyclesDivBusy => Sys2Proof.Machine.execCyclesDivBusy s
  | .idleDuringDiv => Sys2Proof.Machine.execIdleDuringDiv s
  | .delayedBypassFp => Sys2Proof.Machine.execDelayedBypassFp s
  | .delayedBypassSimd => Sys2Proof.Machine.execDelayedBypassSimd s
  | .delayedBypassLoad => Sys2Proof.Machine.execDelayedBypassLoad s
  | .l2Ads u => Sys2Proof.Machine.execL2Ads u s
  | .l2DbusBusyRd u => Sys2Proof.Machine.execL2DbusBusyRd u s
  | .l2LinesIn u => Sys2Proof.Machine.execL2LinesIn u s
  | .l2MLinesIn u => Sys2Proof.Machine.execL2MLinesIn u s
  | .l2LinesOut u => Sys2Proof.Machine.execL2LinesOut u s
  | .l2MLinesOut u => Sys2Proof.Machine.execL2MLinesOut u s
  | .l2Ifetch u => Sys2Proof.Machine.execL2Ifetch u s
  | .l2Ld u => Sys2Proof.Machine.execL2Ld u s
  | .l2St u => Sys2Proof.Machine.execL2St u s
  | .l2Lock u => Sys2Proof.Machine.execL2Lock u s
  | .l2Rqsts u => Sys2Proof.Machine.execL2Rqsts u s
  | .l2RqstsSelfDemandIState => Sys2Proof.Machine.execL2RqstsSelfDemandIState s
  | .l2RqstsSelfDemandMesi => Sys2Proof.Machine.execL2RqstsSelfDemandMesi s
  | .l2RejectBusq u => Sys2Proof.Machine.execL2RejectBusq u s
  | .l2NoReq u => Sys2Proof.Machine.execL2NoReq u s
  | .eistTrans => Sys2Proof.Machine.execEistTrans s
  | .thermalTrip => Sys2Proof.Machine.execThermalTrip s
  | .cpuClkUnhaltedCoreP => Sys2Proof.Machine.execCpuClkUnhaltedCoreP s
  | .cpuClkUnhaltedBus => Sys2Proof.Machine.execCpuClkUnhaltedBus s
  | .cpuClkUnhaltedNoOther => Sys2Proof.Machine.execCpuClkUnhaltedNoOther s
  | .l1dCacheLd u => Sys2Proof.Machine.execL1dCacheLd u s
  | .l1dCacheSt u => Sys2Proof.Machine.execL1dCacheSt u s
  | .l1dCacheLock u => Sys2Proof.Machine.execL1dCacheLock u s
  | .l1dCacheLockDuration => Sys2Proof.Machine.execL1dCacheLockDuration s
  | .l1dAllRef => Sys2Proof.Machine.execL1dAllRef s
  | .l1dAllCacheRef => Sys2Proof.Machine.execL1dAllCacheRef s
  | .l1dRepl => Sys2Proof.Machine.execL1dRepl s
  | .l1dMRepl => Sys2Proof.Machine.execL1dMRepl s
  | .l1dMEvict => Sys2Proof.Machine.execL1dMEvict s
  | .l1dPendMiss => Sys2Proof.Machine.execL1dPendMiss s
  | .l1dSplitLoads => Sys2Proof.Machine.execL1dSplitLoads s
  | .l1dSplitStores => Sys2Proof.Machine.execL1dSplitStores s
  | .ssePreMissNta => Sys2Proof.Machine.execSsePreMissNta s
  | .ssePreMissL1 => Sys2Proof.Machine.execSsePreMissL1 s
  | .ssePreMissL2 => Sys2Proof.Machine.execSsePreMissL2 s
  | .loadHitPre => Sys2Proof.Machine.execLoadHitPre s
  | .l1dPrefetchRequests => Sys2Proof.Machine.execL1dPrefetchRequests s
  | .busRequestOutstanding u => Sys2Proof.Machine.execBusRequestOutstanding u s
  | .busBnrDrv u => Sys2Proof.Machine.execBusBnrDrv u s
  | .busDrdyClocks u => Sys2Proof.Machine.execBusDrdyClocks u s
  | .busLockClocks u => Sys2Proof.Machine.execBusLockClocks u s
  | .busDataRcv u => Sys2Proof.Machine.execBusDataRcv u s
  | .busTransBrd u => Sys2Proof.Machine.execBusTransBrd u s
  | .busTransRfo u => Sys2Proof.Machine.execBusTransRfo u s
  | .busTransWb u => Sys2Proof.Machine.execBusTransWb u s
  | .busTransIfetch u => Sys2Proof.Machine.execBusTransIfetch u s
  | .busTransInvalid u => Sys2Proof.Machine.execBusTransInvalid u s
  | .busTransPwr u => Sys2Proof.Machine.execBusTransPwr u s
  | .busTransP u => Sys2Proof.Machine.execBusTransP u s
  | .busTransIo u => Sys2Proof.Machine.execBusTransIo u s
  | .busTransDef u => Sys2Proof.Machine.execBusTransDef u s
  | .busTransBurst u => Sys2Proof.Machine.execBusTransBurst u s
  | .busTransMem u => Sys2Proof.Machine.execBusTransMem u s
  | .busTransAny u => Sys2Proof.Machine.execBusTransAny u s
  | .extSnoop u => Sys2Proof.Machine.execExtSnoop u s
  | .cmpSnoop u => Sys2Proof.Machine.execCmpSnoop u s
  | .busHitDrv u => Sys2Proof.Machine.execBusHitDrv u s
  | .busHitmDrv u => Sys2Proof.Machine.execBusHitmDrv u s
  | .busqEmpty u => Sys2Proof.Machine.execBusqEmpty u s
  | .snoopStallDrv u => Sys2Proof.Machine.execSnoopStallDrv u s
  | .busIoWait u => Sys2Proof.Machine.execBusIoWait u s
  | .l1lReads => Sys2Proof.Machine.execL1lReads s
  | .l1lMisses => Sys2Proof.Machine.execL1lMisses s
  | .itlbSmallMiss => Sys2Proof.Machine.execItlbSmallMiss s
  | .itlbLargeMiss => Sys2Proof.Machine.execItlbLargeMiss s
  | .itlbFlush => Sys2Proof.Machine.execItlbFlush s
  | .itlbMisses => Sys2Proof.Machine.execItlbMisses s
  | .instQueueFull => Sys2Proof.Machine.execInstQueueFull s
  | .cyclesL1lMemStalled => Sys2Proof.Machine.execCyclesL1lMemStalled s
  | .ildStall => Sys2Proof.Machine.execIldStall s
  | .brInstExec => Sys2Proof.Machine.execBrInstExec s
  | .brMispExec => Sys2Proof.Machine.execBrMispExec s
  | .brBacMispExec => Sys2Proof.Machine.execBrBacMispExec s
  | .brCndExec => Sys2Proof.Machine.execBrCndExec s
  | .brCndMisspExec => Sys2Proof.Machine.execBrCndMisspExec s
  | .brIndExec => Sys2Proof.Machine.execBrIndExec s
  | .brIndMisspExec => Sys2Proof.Machine.execBrIndMisspExec s
  | .brRetExec => Sys2Proof.Machine.execBrRetExec s
  | .brRetMisspExec => Sys2Proof.Machine.execBrRetMisspExec s
  | .brRetBacMisspExec => Sys2Proof.Machine.execBrRetBacMisspExec s
  | .brCallExec => Sys2Proof.Machine.execBrCallExec s
  | .brCallMisspExec => Sys2Proof.Machine.execBrCallMisspExec s
  | .brIndCallExec => Sys2Proof.Machine.execBrIndCallExec s
  | .brTknBubble1 => Sys2Proof.Machine.execBrTknBubble1 s
  | .brTknBubble2 => Sys2Proof.Machine.execBrTknBubble2 s
  | .rsUopsDispatched => Sys2Proof.Machine.execRsUopsDispatched s
  | .rsUopsDispatchedPort0 => Sys2Proof.Machine.execRsUopsDispatchedPort0 s
  | .rsUopsDispatchedPort1 => Sys2Proof.Machine.execRsUopsDispatchedPort1 s
  | .rsUopsDispatchedPort2 => Sys2Proof.Machine.execRsUopsDispatchedPort2 s
  | .rsUopsDispatchedPort3 => Sys2Proof.Machine.execRsUopsDispatchedPort3 s
  | .rsUopsDispatchedPort4 => Sys2Proof.Machine.execRsUopsDispatchedPort4 s
  | .rsUopsDispatchedPort5 => Sys2Proof.Machine.execRsUopsDispatchedPort5 s
  | .macroInstsDecoded => Sys2Proof.Machine.execMacroInstsDecoded s
  | .macroInstsCiscDecoded => Sys2Proof.Machine.execMacroInstsCiscDecoded s
  | .espSynch => Sys2Proof.Machine.execEspSynch s
  | .espAdditions => Sys2Proof.Machine.execEspAdditions s
  | .simdUopsExec => Sys2Proof.Machine.execSimdUopsExec s
  | .simdSatUopExec => Sys2Proof.Machine.execSimdSatUopExec s
  | .simdUopTypeExecMul => Sys2Proof.Machine.execSimdUopTypeExecMul s
  | .simdUopTypeExecShift => Sys2Proof.Machine.execSimdUopTypeExecShift s
  | .simdUopTypeExecPack => Sys2Proof.Machine.execSimdUopTypeExecPack s
  | .simdUopTypeExecUnpack => Sys2Proof.Machine.execSimdUopTypeExecUnpack s
  | .simdUopTypeExecLogical => Sys2Proof.Machine.execSimdUopTypeExecLogical s
  | .simdUopTypeExecArithmetic => Sys2Proof.Machine.execSimdUopTypeExecArithmetic s
  | .instRetiredAnyP => Sys2Proof.Machine.execInstRetiredAnyP s
  | .instRetiredLoads => Sys2Proof.Machine.execInstRetiredLoads s
  | .instRetiredStores => Sys2Proof.Machine.execInstRetiredStores s
  | .instRetiredOther => Sys2Proof.Machine.execInstRetiredOther s
  | .x87OpsRetiredFxch => Sys2Proof.Machine.execX87OpsRetiredFxch s
  | .x87OpsRetiredAny => Sys2Proof.Machine.execX87OpsRetiredAny s
  | .uopsRetiredLdIndBr => Sys2Proof.Machine.execUopsRetiredLdIndBr s
  | .uopsRetiredStdSta => Sys2Proof.Machine.execUopsRetiredStdSta s
  | .uopsRetiredMacroFusion => Sys2Proof.Machine.execUopsRetiredMacroFusion s
  | .uopsRetiredFused => Sys2Proof.Machine.execUopsRetiredFused s
  | .uopsRetiredNonFused => Sys2Proof.Machine.execUopsRetiredNonFused s
  | .uopsRetiredAny => Sys2Proof.Machine.execUopsRetiredAny s
  | .machineNukesSmc => Sys2Proof.Machine.execMachineNukesSmc s
  | .machineNukesMemOrder => Sys2Proof.Machine.execMachineNukesMemOrder s
  | .brInstRetiredAny => Sys2Proof.Machine.execBrInstRetiredAny s
  | .brInstRetiredPredNotTaken => Sys2Proof.Machine.execBrInstRetiredPredNotTaken s
  | .brInstRetiredMispredNotTaken => Sys2Proof.Machine.execBrInstRetiredMispredNotTaken s
  | .brInstRetiredPredTaken => Sys2Proof.Machine.execBrInstRetiredPredTaken s
  | .brInstRetiredMispredTaken => Sys2Proof.Machine.execBrInstRetiredMispredTaken s
  | .brInstRetiredTaken => Sys2Proof.Machine.execBrInstRetiredTaken s
  | .brInstRetiredMispred => Sys2Proof.Machine.execBrInstRetiredMispred s
  | .cyclesIntMasked => Sys2Proof.Machine.execCyclesIntMasked s
  | .cyclesIntPendingAndMasked => Sys2Proof.Machine.execCyclesIntPendingAndMasked s
  | .simdInstRetiredPackedSingle => Sys2Proof.Machine.execSimdInstRetiredPackedSingle s
  | .simdInstRetiredScalarSingle => Sys2Proof.Machine.execSimdInstRetiredScalarSingle s
  | .simdInstRetiredPackedDouble => Sys2Proof.Machine.execSimdInstRetiredPackedDouble s
  | .simdInstRetiredScalarDouble => Sys2Proof.Machine.execSimdInstRetiredScalarDouble s
  | .simdInstRetiredVector => Sys2Proof.Machine.execSimdInstRetiredVector s
  | .simdInstRetiredAny => Sys2Proof.Machine.execSimdInstRetiredAny s
  | .hwIntRcv => Sys2Proof.Machine.execHwIntRcv s
  | .itlbMissRetired => Sys2Proof.Machine.execItlbMissRetired s
  | .simdCompInstRetiredPackedSingle => Sys2Proof.Machine.execSimdCompInstRetiredPackedSingle s
  | .simdCompInstRetiredScalarSingle => Sys2Proof.Machine.execSimdCompInstRetiredScalarSingle s
  | .simdCompInstRetiredPackedDouble => Sys2Proof.Machine.execSimdCompInstRetiredPackedDouble s
  | .simdCompInstRetiredScalarDouble => Sys2Proof.Machine.execSimdCompInstRetiredScalarDouble s
  | .memLoadRetiredL1dMiss => Sys2Proof.Machine.execMemLoadRetiredL1dMiss s
  | .memLoadRetiredL1dLineMiss => Sys2Proof.Machine.execMemLoadRetiredL1dLineMiss s
  | .memLoadRetiredL2Miss => Sys2Proof.Machine.execMemLoadRetiredL2Miss s
  | .memLoadRetiredL2LineMiss => Sys2Proof.Machine.execMemLoadRetiredL2LineMiss s
  | .memLoadRetiredDtlbMiss => Sys2Proof.Machine.execMemLoadRetiredDtlbMiss s
  | .fpMmxTransToMmx => Sys2Proof.Machine.execFpMmxTransToMmx s
  | .fpMmxTransToFp => Sys2Proof.Machine.execFpMmxTransToFp s
  | .simdAssist => Sys2Proof.Machine.execSimdAssist s
  | .simdInstrRetired => Sys2Proof.Machine.execSimdInstrRetired s
  | .simdSatInstrRetired => Sys2Proof.Machine.execSimdSatInstrRetired s
  | .ratStallsRobReadPort => Sys2Proof.Machine.execRatStallsRobReadPort s
  | .ratStallsPartialCycles => Sys2Proof.Machine.execRatStallsPartialCycles s
  | .ratStallsFlags => Sys2Proof.Machine.execRatStallsFlags s
  | .ratStallsFpsw => Sys2Proof.Machine.execRatStallsFpsw s
  | .ratStallsAny => Sys2Proof.Machine.execRatStallsAny s
  | .segRenameStallsEs => Sys2Proof.Machine.execSegRenameStallsEs s
  | .segRenameStallsDs => Sys2Proof.Machine.execSegRenameStallsDs s
  | .segRenameStallsFs => Sys2Proof.Machine.execSegRenameStallsFs s
  | .segRenameStallsGs => Sys2Proof.Machine.execSegRenameStallsGs s
  | .segRenameStallsAny => Sys2Proof.Machine.execSegRenameStallsAny s
  | .segRegRenamesEs => Sys2Proof.Machine.execSegRegRenamesEs s
  | .segRegRenamesDs => Sys2Proof.Machine.execSegRegRenamesDs s
  | .segRegRenamesFs => Sys2Proof.Machine.execSegRegRenamesFs s
  | .segRegRenamesGs => Sys2Proof.Machine.execSegRegRenamesGs s
  | .segRegRenamesAny => Sys2Proof.Machine.execSegRegRenamesAny s
  | .resourceStallsRobFull => Sys2Proof.Machine.execResourceStallsRobFull s
  | .resourceStallsRsFull => Sys2Proof.Machine.execResourceStallsRsFull s
  | .resourceStallsLdSt => Sys2Proof.Machine.execResourceStallsLdSt s
  | .resourceStallsFpcw => Sys2Proof.Machine.execResourceStallsFpcw s
  | .resourceStallsBrMissClear => Sys2Proof.Machine.execResourceStallsBrMissClear s
  | .resourceStallsAny => Sys2Proof.Machine.execResourceStallsAny s
  | .brInstDecoded => Sys2Proof.Machine.execBrInstDecoded s
  | .bogusBr => Sys2Proof.Machine.execBogusBr s
  | .baclears => Sys2Proof.Machine.execBaclears s
  | .prefRqstsUp => Sys2Proof.Machine.execPrefRqstsUp s
  | .prefRqstsDn => Sys2Proof.Machine.execPrefRqstsDn s

end Sys2Proof.Machine
end

