-- ==== Sys2Proof/Machine/History.lean ====
section
/-! DEFINITION. History.lean: what each input of the history does to the state and which moment it makes (rules R12, R27 to
R42, D1, D4, D16 and D20).

Occurrences are inputs; what the source states of the state behind them (a halt state, a C state, a cache line's state,
a renamed segment register, a prefetch in flight, a store buffer, ...) is kept here, and the moment says what that state
made of the input. What the source says follows from an occurrence follows as further inputs, before any other. -/

namespace Sys2Proof.Machine

/-- The core an input is about, where it is about one. -/
def Input.core? (i : Input) : Option CoreId :=
  match i with
  | .select x _ _ _ | .readMsr x _ | .writeMsr x _ _ | .startFixed x | .tick (.core x) | .setPipe x _
  | .setPredictors x _ | .enterPipe x _ _ | .execute x | .abandon x _ _ _ | .nuke x _ _ _ _ | .storeWait x
  | .storeCommit x | .drain x _ | .fence x | .ioRequest x | .busRequest x _ _ | .dequeue x _ | .setRegs x _ | .halt x _
  | .wake x | .transition x _ | .disableInterrupts x _ | .interrupt x | .takeInterrupt x | .occ x _
  | .segmentLoad x _ _ _ | .segmentUpdate x _ | .segmentRetire x _ | .dataAccess x _ _ | .setTlb x _
  | .pageWalkStart x _ | .pageWalkEnd x _ | .fpOp x _ | .l2LineIn x _ _ _ | .l2LineOut x _ _ | .l2Request x _
  | .l2Reject x _ | .dataRef x _ | .retiredRef x _ | .l1dLineIn x _ _ | .l1dLineOut x _ | .writeBackToL2 x _
  | .l1dLineState x _ _ | .l1iLineState x _ _ | .loadSent x _ | .prefetchStart x _ _ | .prefetchEnd x _ _ _
  | .lockEnd x _ | .coreSnoop x _ _ _ | .fetch x _ | .itlbFlush x | .controlWrite x _ _ _ | .lengthDecode x _
  | .espImplicit x _ | .espExplicit x | .fpInst x | .mmxInst x | .emms x | .retire x _ | .fpswWrite x _
  | .fpcwWrite x _ | .dplPrefetch x _ _ _ => some x
  | .read (.gp x _) | .read (.fixed x _) => some x
  | _ => none

/-- Changes a core's state. -/
def State.modCore (s : State) (x : CoreId) (f : Core → Core) : State := s.setCore x (f (s.core x))

/-- A line is in state M (rule R41). -/
def isModified (m : LineMap) (line : Nat) : Bool := lineState m line = LineState.m

/-- A segment register of a core. -/
def Core.segment (c : Core) (r : SegReg) : Segment :=
  match r with
  | .es => c.es
  | .ds => c.ds
  | .fs => c.fs
  | .gs => c.gs

/-- Replaces a segment register of a core. -/
def Core.setSegment (c : Core) (r : SegReg) (v : Segment) : Core :=
  match r with
  | .es => { c with es := v }
  | .ds => { c with ds := v }
  | .fs => { c with fs := v }
  | .gs => { c with gs := v }

/-! ## Clocks, the halt state, transitions, temperature -/

/-- A cycle of a clock. The cores work off the stalls it takes cycles of. In a bus cycle BNR and the snoop stall run
off, and what they held back is submitted next (rule R560); each bus cycle brings BUS_TO_REF_RATIO reference cycles,
which follow it and come from nothing else (rule R564; log entry 11). In a reference cycle the time stamp counter
advances, halted or not (rule R32); there is one for both cores (DESIGN CHOICE, log entry 40). -/
def State.tickClock (s : State) (t : Tick) : State :=
  match t with
  | .core x => (s.workOff (.core x)).begin (.tick (.core x))
  | .bus =>
    let credit := s.refCredit + s.params.refCycles
    let s' := { s.workOff .bus with
      bnrLeft := s.bnrLeft - 1, snoopStallLeft := s.snoopStallLeft - 1, refCredit := credit }
    ({ s' with heldBack := s.heldBack.filter fun b => !s'.canSubmit b }.followedBy
      (List.replicate (credit / s.params.busCycles) (Input.tick .ref) ++
        (s.heldBack.filter s'.canSubmit).map Input.busTrans)).begin (.tick .bus)
  | .ref =>
    if s.refCredit < s.params.busCycles then s
    else { s.workOff .ref with tsc := s.tsc + 1, refCredit := s.refCredit - s.params.busCycles }.begin (.tick .ref)

/-- The frequency and the voltage of a core after a transition (rule R29). Those to which a tripped processor returns
are from then on what the transition set, whatever its kind: TM2 is a name only, of a mechanism whose transitions change
frequency (rules R17 and R31; DESIGN CHOICE, log entry 23). Of state lost in a power state rule R526 finds nothing said:
all other state of the core stays, its registers, caches, TLBs and pipeline, whatever C state it goes to, and nothing is
held back there (DESIGN CHOICE, log entry 67). -/
def Core.afterTransition (c : Core) (t : Transition) : Core :=
  { c with
    frequency := t.frequency.getD c.frequency
    voltage := t.voltage.getD c.voltage
    normalFrequency := t.frequency.getD c.normalFrequency
    normalVoltage := t.voltage.getD c.normalVoltage
    cState := match t.kind with
      | .cState n => n
      | _ => c.cState }

/-- A transition of the core clock (rules R29, R30 and R245). -/
def State.makeTransition (s : State) (x : CoreId) (t : Transition) : State :=
  (s.modCore x (·.afterTransition t)).begin (.found x (.transition (transitionCounted (s.core x).cState t)))

/-- A core whose frequency and voltage are reduced after a thermal trip (rule R31); it loses no other state (rule R526;
DESIGN CHOICE, log entry 67). -/
def Core.throttle (c : Core) : Core :=
  { c with
    normalFrequency := c.frequency
    normalVoltage := c.voltage
    frequency := reduced Config.reducedFrequency c.frequency
    voltage := reduced Config.reducedVoltage c.voltage }

/-- A core that returns to normal (rule R31). -/
def Core.unthrottle (c : Core) : Core := { c with frequency := c.normalFrequency, voltage := c.normalVoltage }

/-- The temperature becomes `t`. A thermal trip is a change from normal to tripped, and reduces frequency and voltage
of the processor (rule R31). -/
def State.setTemperature (s : State) (t : Nat) : State :=
  if exceedsTrip s.params t && !s.thermal.tripped then
    { s with thermal := ⟨t, true⟩, core0 := s.core0.throttle, core1 := s.core1.throttle }.begin (.sys .thermalTrip)
  else { s with thermal := { s.thermal with temperature := t } }

/-- The check made every millisecond: a tripped processor below the threshold returns to normal (rule R31). -/
def State.thermalCheck (s : State) : State :=
  if belowTrip s.params s.thermal.temperature && s.thermal.tripped then
    { s with
      thermal := { s.thermal with tripped := false }, core0 := s.core0.unthrottle, core1 := s.core1.unthrottle }
  else s

/-! ## The pipeline: entry, execution, stores, loads, retirement -/

/-- An instruction enters the out-of-order pipeline, where it can (rules R379, R394 to R396 and R398). -/
def Core.enter (c : Core) (p : Params) (load store : Bool) : Core :=
  if c.canEnter p load store then
    { c with inFlight := ⟨c.inFlight.retirement + 1, c.inFlight.execution + 1, c.inFlight.loads + load.toNat,
        c.inFlight.stores + store.toNat⟩ }
  else c

/-- None of the instructions waiting for execution can execute now: execution does not go on (rule R69), or each of them
waits for previous stores to commit (rule R73; log entry 43). Whether the instruction of a load that is blocked until a
store's commit can leave the reservation station before it rule R202 does not say: it can, and the load stays blocked
(DESIGN CHOICE, log entry 44). -/
def Core.holdsExecution (c : Core) : Bool := c.executionHeld || decide (c.inFlight.execution ≤ c.fences.length)

/-- An instruction waits for execution no longer, where one can execute (rules R69, R73 and R395). -/
def Core.executed (c : Core) : Core :=
  if c.holdsExecution then c else { c with inFlight := { c.inFlight with execution := c.inFlight.execution - 1 } }

/-- The stores of a core that have retired and not committed their data: those in the store buffer and those that do not
yet wait in it (rules R67 and R69). -/
def Core.uncommitted (c : Core) : Nat := c.storeBuffer.length + c.retiredStores.length

/-- Instructions, loads and stores leave the pipeline without retiring; a store that has retired leaves it by its commit
alone, so all of those stay. An abandoned instruction that waited for previous stores is in the pipe no longer, the
others, at most as many as still wait for execution, wait for those of their stores that are left, and one that has none
left to wait for waits no longer (rules R15, R67, R73, R396 and R508; log entry 43). No more instructions wait for
execution than are left in the pipe. A segment register whose update is thrown away stays renamed until the input
`segmentRetire`: what becomes of such a copy rule R384 does not say (DESIGN CHOICE, log entry 24). Nor does the source
say what else a restart or an abandoned path undoes: here nothing else. An implicit use of ESP that is thrown away still
makes the next explicit use a synchronisation (`espImplicit`, rule R324), and slow length decoding in progress goes on
and is counted by ILD_STALL (`slowDecodeLeft`, rule R299) (DESIGN CHOICE, log entry 70). -/
def Core.abandoned (c : Core) (n : InFlight) (fences : Nat) (loads : List DataRef) : Core :=
  let stores := max (c.inFlight.stores - n.stores) c.uncommitted
  let retirement := c.inFlight.retirement - n.retirement
  let execution := min (c.inFlight.execution - n.execution) retirement
  { c with
    fences := ((c.fences.drop (max fences (c.fences.length - execution))).map (min stores)).filter (0 < ·)
    inFlight := ⟨retirement, execution, c.inFlight.loads - n.loads, stores⟩
    blocked := ⟨c.blocked.untilRetirement.filter fun a => !loads.contains a,
      c.blocked.untilCommit.filter fun b => !loads.any (·.bytes = b.1)⟩ }

/-- What a pipeline restart throws away, where `n` succeeds the load that is restarted: a memory ordering conflict and a
memory disambiguation misprediction restart a load that has executed and not retired, and it goes with them; of a write
to a code section the source names no instruction that is restarted (rules R72, R75, R217 and R508; log entry 43). -/
def Nuke.throws (k : Nuke) (n : InFlight) : InFlight :=
  match k with
  | .selfModifyingCode => n
  | .memoryOrder | .disambiguation => { n with retirement := n.retirement + 1, loads := n.loads + 1 }

/-- The pipeline of a core is restarted: it is cleaned of what is thrown away, whose execution starts again with new
entries (rule R508; log entry 43). Older instructions stay: only the restarted load "and all succeeding instructions"
restart. -/
def State.restart (s : State) (x : CoreId) (k : Nuke) (n : InFlight) (fences : Nat) (loads : List DataRef) : State :=
  (s.modCore x (·.abandoned (k.throws n) fences loads)).begin (.found x (.nuke k))

/-- The oldest store that has retired and does not wait in the store buffer starts to wait there; while the buffer
drains, new stores wait outside (rule R69). That a store waits in the buffer only from its retirement on is the model's
choice: the source says when it leaves the buffer and not when it enters it (DESIGN CHOICE, log entry 44). -/
def Core.storeWaits (c : Core) : Core :=
  match c.draining, c.retiredStores with
  | none, store :: rest => { c with storeBuffer := c.storeBuffer ++ [store], retiredStores := rest }
  | _, _ => c

/-- The oldest store leaves the store buffer, its data committed to the cache or memory. In what way the order of a
non-temporal store is weaker rule R71 does not say: a store of the buffer has no class, and each commits in the order of
the program (DESIGN CHOICE, log entry 43). It has retired, so the loads it blocks are free, "after the blocking store
retires and the stored data is committed" (rules R67 and R202); each waiting instruction waits for one store less (rule
R73), and a drain ends with the last store (rule R69). The store is known by its bytes: of two stores in flight with the
same bytes, whose commits rule R563 does not tell apart, the commit of either frees the loads blocked by one of them
(DESIGN CHOICE, log entry 44), also where one of them is in memory and one in I/O space (rule R62; DESIGN CHOICE, log
entry 68). What the stall of a store by a snoop or for order holds back the source does not say, of the first only that
the store "is typically resubmitted one cycle later" (rules R70, R79, R206 and R559): it holds back no commit, and a
store commits while `storeStalledBySnoop` or `storeWaitsForOrder` is true (DESIGN CHOICE, log entry 58). -/
def Core.storeCommits (c : Core) : Core :=
  match c.storeBuffer with
  | [] => c
  | store :: rest => { c with
      storeBuffer := rest
      inFlight := { c.inFlight with stores := c.inFlight.stores - 1 }
      fences := (c.fences.map (· - 1)).filter (0 < ·)
      draining := if rest.isEmpty then none else c.draining
      blocked := { c.blocked with untilCommit := c.blocked.untilCommit.filter (·.2 ≠ store) } }

/-- A drain of the store buffer starts, unless the buffer is empty (rules R69 and R74; log entry 44). -/
def Core.drain (c : Core) (cause : DrainCause) : Core :=
  if c.storeBuffer.isEmpty then c else { c with draining := some cause }

/-- An instruction of the pipe waits for all stores now in it before it is executed; where there is no store, or where
every instruction that waits for execution waits so already, nothing is added (rule R73; log entry 43). -/
def Core.fence (c : Core) : Core :=
  if c.inFlight.stores = 0 || decide (c.inFlight.execution ≤ c.fences.length) then c
  else { c with fences := c.inFlight.stores :: c.fences }

/-- A load waits from now on: until retirement, or, where the cases of rule R202 hold, until a store's data is
committed. What ends the other blocks the source does not say, and no event reads it. -/
def Blocked.add (w : Blocked) (b : LoadBlock) : Blocked :=
  match b with
  | .untilRetire a => { w with untilRetirement := w.untilRetirement.insert a }
  | .overlap load store =>
    if overlapBlocks load store then { w with untilCommit := w.untilCommit.insert (load, store) } else w
  | _ => w

/-- A load is blocked (rule R67). -/
def State.blockLoad (s : State) (x : CoreId) (b : LoadBlock) : State :=
  (s.modCore x fun c => { c with blocked := c.blocked.add b }).begin (.occ x (.loadBlocked b))

/-- A plain occurrence in a core; a load that is blocked waits from now on. -/
def State.occur (s : State) (x : CoreId) (o : Occ) : State :=
  match o with
  | .loadBlocked b => s.blockLoad x b
  | o => s.begin (.occ x o)

/-- A reference to the L1 data cache is performed and finds the lines it touches in their states (rule R41). Whether a
split access is performed as one or as two transfers the source does not say (rule R66): it is one reference, which a
row counts once (DESIGN CHOICE, log entry 57). -/
def State.performRef (s : State) (x : CoreId) (a : DataRef) : State :=
  s.begin (.found x (.dataRef a
    (lineState (s.core x).l1d (lineOf s.params a.bytes.addr))
    (lineState (s.core x).l1d (lineOf s.params a.bytes.lastByte))))

/-- A load waits for the data of a store to be committed (rule R202). It is known by its bytes: of two loads of the same
bytes, which no rule tells apart, one that is blocked holds the other with it, the commit frees both, and both are
thrown away together (DESIGN CHOICE, log entry 44). The bytes are known by their numbers without the address space: rule
R62 leaves the ordering of I/O against memory open, and a load from I/O space is held with a blocked load of the same
numbers in memory (DESIGN CHOICE, log entry 68). -/
def Core.waitsForCommit (c : Core) (a : DataRef) : Bool := !a.write && c.blocked.untilCommit.any (·.1 = a.bytes)

/-- A load is executed at retirement only: a split or an uncacheable one, or one blocked until then (rules R61, R66 and
R203). -/
def Core.waitsForRetirement (c : Core) (p : Params) (a : DataRef) : Bool :=
  a.executesAtRetirement p || (!a.write && c.blocked.untilRetirement.contains a)

/-- A load cannot be made now: execution does not go on (rule R69), or it waits for a store's commit (rule R202). -/
def Core.holdsLoad (c : Core) (a : DataRef) : Bool := (!a.write && c.executionHeld) || c.waitsForCommit a

/-- A reference is made at execution: a load that has to wait is not performed, one that is executed at retirement is
blocked until then, any other reference is performed. -/
def State.makeRef (s : State) (x : CoreId) (a : DataRef) : State :=
  if (s.core x).holdsLoad a then s
  else if (s.core x).waitsForRetirement s.params a then s.blockLoad x (.untilRetire a)
  else s.performRef x a

/-- A reference that is performed at retirement: a load not while it has to wait, any other at once (rules R66, R69,
R202 and R563). -/
def State.makeRetiredRef (s : State) (x : CoreId) (a : DataRef) : State :=
  if (s.core x).holdsLoad a then s else s.performRef x a

/-- The address executed after the last instruction that a retired micro-op completes (rules R35 and R510). -/
def RetiredUop.nextAddr (u : RetiredUop) (addr : Nat) : Nat := (u.completes.getLast?.map (·.next)).getD addr

/-- What the retirement of a micro-op does to its core: the instructions it completes leave the pipeline, their stores
apart, which have retired now and stay until their data is committed, and the loads blocked until their retirement are
free (rules R67, R394, R396 and R563). A store that the history let not enter the pipeline adds none to it (log entry
44). -/
def Core.retired (c : Core) (u : RetiredUop) : Core :=
  { c with
    regs := { c.regs with instAddr := u.nextAddr c.regs.instAddr }
    inFlight := { c.inFlight with
      retirement := c.inFlight.retirement - u.completes.length
      loads := c.inFlight.loads - u.completes.countP (·.load) }
    retiredStores := (c.retiredStores ++ u.completes.filterMap (·.store)).take
      (c.inFlight.stores - c.storeBuffer.length)
    blocked := { c.blocked with
      untilRetirement := c.blocked.untilRetirement.filter fun a => !u.completes.any (·.atRetirement.contains a) } }

/-- Locked accesses of a core begin: each asserts the bus LOCK signal or locks a cache line (rule R68). What a lock
keeps others from the source does not say (rules R68 and R83): here nothing (DESIGN CHOICE, log entry 25). -/
def State.startLocks (s : State) (x : CoreId) (l : List DataRef) : State :=
  { s.modCore x (fun c => { c with
      lockedLines := (l.filter fun a => !locksBus s.params a).map (fun a => lineOf s.params a.bytes.addr) ++
        c.lockedLines }) with
    bus := { s.bus with
      lock := (l.filter (locksBus s.params)).map (fun _ => (.thisProcessor, some x)) ++ s.bus.lock } }

/-- An instruction executes something at retirement: a load, or a locked access (rule R563). -/
def RetiredInst.executesAtRetirement (r : RetiredInst) : Bool := !r.atRetirement.isEmpty || !r.locks.isEmpty

/-- A load or a locked access that the instruction executes at retirement is blocked until a store commits its data
(rules R67, R68, R202 and R563). -/
def RetiredInst.blockedIn (r : RetiredInst) (c : Core) : Bool := (r.atRetirement ++ r.locks).any c.waitsForCommit

/-- Fewer instructions of the pipe wait for nothing but retirement than the micro-op completes: one of them would not
have entered the pipe or would still wait for execution, for its previous stores perhaps, and retirement is the last
stage (rules R15, R73, R394 and R395; log entry 43). -/
def Core.unexecutedRetire (c : Core) (u : RetiredUop) : Bool :=
  decide (c.inFlight.retirement < u.completes.length + c.inFlight.execution)

/-- A micro-op cannot retire now: it executes something at retirement and execution does not go on, or what it executes
then is blocked by a store, or it would complete an instruction that has not executed. Any other retires: a store
commits its data, and so leaves the buffer that is being emptied, only after it has retired (rules R67, R69, R73, R202
and R563; log entries 43 and 44). Whether the instruction of a blocked load that executes nothing at retirement can
retire before the store commits rule R202 does not say: it can, and the load stays blocked until that commit (DESIGN
CHOICE, log entry 44). The halt state, "in which a core does not run" (rule R17), holds no retirement: the source does
not say what it holds back, and in a halted core entry, execution and retirement go on and count (DESIGN CHOICE, log
entry 38). -/
def Core.holdsRetirement (c : Core) (u : RetiredUop) : Bool :=
  (c.executionHeld && u.completes.any (·.executesAtRetirement)) || u.completes.any (·.blockedIn c) ||
    c.unexecutedRetire u

/-- A micro-op retires, where it can. The locks of the instructions it completes begin, and the loads they execute at
retirement follow (rules R66, R68 and R563). -/
def State.retire (s : State) (x : CoreId) (u : RetiredUop) : State :=
  if (s.core x).holdsRetirement u then s
  else (((s.modCore x (·.retired u)).startLocks x (u.completes.flatMap RetiredInst.locks)).followedBy
    (u.completes.flatMap fun r => r.atRetirement.map (Input.retiredRef x))).begin (.found x (.retired u))

/-- The bus LOCK signal is no longer asserted for one of the accesses of core `x` that asserted it. -/
def Bus.unlock (b : Bus) (x : CoreId) : Bus := { b with lock := b.lock.erase (.thisProcessor, some x) }

/-- A locked access of a core ends. -/
def State.endLock (s : State) (x : CoreId) (a : DataRef) : State :=
  if locksBus s.params a then { s with bus := s.bus.unlock x }
  else s.modCore x fun c => { c with lockedLines := c.lockedLines.erase (lineOf s.params a.bytes.addr) }

/-- A page walk starts; one from an uncacheable page table asserts LOCK (rules R68, R77 and R219). At which moment a
page walk "executed" is counted, when it starts or when it has been carried out, rule R219 does not say:
PAGE_WALKS.COUNT counts the start, so that a walk in progress, or one that never ends, is counted (DESIGN CHOICE, log
entry 66). -/
def State.startPageWalk (s : State) (x : CoreId) (uncacheable : Bool) : State :=
  ({ s.modCore x (fun c => { c with pageWalks := c.pageWalks + 1 }) with
    bus := if uncacheable then { s.bus with lock := (.thisProcessor, some x) :: s.bus.lock } else s.bus }).begin
      (.found x .pageWalk)

/-- A page walk ends. -/
def State.endPageWalk (s : State) (x : CoreId) (uncacheable : Bool) : State :=
  { s.modCore x (fun c => { c with pageWalks := c.pageWalks - 1 }) with
    bus := if uncacheable then s.bus.unlock x else s.bus }

/-- A segment register is updated: it is renamed, or, while a renamed copy has not retired, the update stalls (rule
R384). Of the stall "in the front-end of the pipeline" the source does not say what it holds back: here the update
alone, which the history makes again, while fetch and entry go on. Nor does it say which instructions cause a rename
(rule R389): here only the input `segmentUpdate` does, and an instruction that loads a segment register and renames it
is the two inputs `segmentLoad` and `segmentUpdate` (DESIGN CHOICE, log entry 24). -/
def State.updateSegment (s : State) (x : CoreId) (r : SegReg) : State :=
  if ((s.core x).segment r).renamed then s.begin (.found x (.segmentStalled r))
  else (s.modCore x fun c => c.setSegment r { c.segment r with renamed := true }).begin (.found x (.segmentRenamed r))

/-- ESP is used explicitly in the address expression of a load or store (rule R324). -/
def State.useEsp (s : State) (x : CoreId) : State :=
  if (s.core x).espImplicit then
    (s.modCore x fun c => { c with espImplicit := false }).begin (.found x .espSynch)
  else s

/-! ## Translation, decoding, control registers -/

/-- A lookup of the data TLB (rule R76): a load looks up DTLB0 and then DTLB1, a store DTLB1 only; an access that is
neither is taken to look up both (DESIGN CHOICE, log entry 34). -/
def State.lookupDtlb (s : State) (x : CoreId) (k : AccessKind) (page : Nat) : State :=
  let t := (s.core x).tlb
  let in0 := t.dtlb0.contains page
  let in1 := t.dtlb1.contains page
  s.begin (.found x (match k with
    | .load => .dtlbLookup k (!in0) (!in0 && !in1)
    | .store => .dtlbLookup k false (!in1)
    | .unlisted => .dtlbLookup k false (!in0 && !in1)))

/-- The ITLB of a core is flushed (rule R78). -/
def State.flushItlb (s : State) (x : CoreId) : State :=
  (s.modCore x fun c => { c with tlb := { c.tlb with itlb := [] } }).begin (.found x .itlbFlush)

/-- A write of CR0 or CR3, which usually flushes the ITLB (rule R78). -/
def State.writeControl (s : State) (x : CoreId) (toCr3 : Bool) (value : Nat) (flushes : Bool) : State :=
  let s' := s.modCore x fun c =>
    { c with regs := if toCr3 then { c.regs with cr3 := value } else { c.regs with cr0 := value } }
  if flushes then s'.flushItlb x else s'

/-- An instruction is length decoded. The slow decoder takes 6 cycles; whether all 6 use the slow decoder or 5 beyond
the usual 1 is open (rules R299 and R551). -/
def State.decodeLength (s : State) (x : CoreId) (d : LengthDecode) : State :=
  if slowDecoderUsed (s.core x).regs.mode d then
    s.modCore x fun c =>
      { c with slowDecodeLeft := c.slowDecodeLeft + if s.unstated .slowDecodeFive then 5 else 6 }
  else s

/-! ## Caches and prefetch (rules R79 and R80) -/

/-- A software prefetch of the line has started and not finished (rule R265). -/
def Core.prefetches (c : Core) (line : Nat) : Bool := c.prefetching.any (·.2 = line)

/-- A load of these bytes is sent while a software prefetch of "the same cache line" has started and not finished. Of a
load that touches two lines, only one of which is prefetched, the source does not say (rule R265; log entry 5). -/
def State.hitsPrefetch (s : State) (x : CoreId) (bytes : Access) : Bool :=
  let first := (s.core x).prefetches (lineOf s.params bytes.addr)
  let last := (s.core x).prefetches (lineOf s.params bytes.lastByte)
  if first = last then first else s.unstated .splitLoadHitsPrefetch

/-- A load is sent to the L1 data cache, where execution goes on (rules R69 and R265). Whether one that is blocked until
a store's commit can be sent while it is blocked rule R202 does not say: it is, and only a drain holds it back; what
waits for the commit is the reference (DESIGN CHOICE, log entry 44). -/
def State.sendLoad (s : State) (x : CoreId) (bytes : Access) : State :=
  if (s.core x).executionHeld then s else s.begin (.found x (.loadSent (s.hitsPrefetch x bytes)))

/-- The front end fetches an instruction, unless the instruction queue is full: then it has stopped fetching (rule R297;
log entry 52). What a fetch stall and the halt state hold back the source does not say (rules R17 and R298): here no
fetch (DESIGN CHOICE, log entries 38 and 58). -/
def State.fetchInst (s : State) (x : CoreId) (f : Fetch) : State :=
  if (s.core x).pipe.instQueueFull then s
  else s.begin (.found x (.fetch f (!(s.core x).tlb.itlb.contains f.page)))

/-- The L1 data cache of core `x` is snooped for the other core, through its store port (rules R79 and R285; log entries
12 and 46). A line in M does not change now, whatever `after` names. A line that `after` takes from I to another state
is in the cache from then on, and L1D_REPL and L1D_M_REPL count nothing: only `l1dLineIn` brings a line in (rule R256;
DESIGN CHOICE, log entry 12). -/
def State.snoopCore (s : State) (x : CoreId) (line : Nat) (k : SnoopKind) (after : Option LineState) : State :=
  (s.modCore x fun c => { c with
    portSnoops := c.portSnoops + 1
    l1d := setLine c.l1d line (afterCoreSnoop k after (lineState c.l1d line)) }).begin (.found x (.coreSnoop k))

/-- A line leaves the L1 data cache of a core; a modified one is written back to the L2 cache next (rule R79). -/
def State.evictL1d (s : State) (x : CoreId) (line : Nat) : State :=
  ((s.modCore x fun c => { c with l1d := setLine c.l1d line .i }).followedBy
    (if isModified (s.core x).l1d line then [.writeBackToL2 x line] else [])).begin
      (.found x (.l1dLineOut (isModified (s.core x).l1d line)))

/-- A line of the L1 data cache of a core gets another state. A modified line that becomes invalid leaves the cache, so
it is evicted and written back (rules R79 and R258; log entry 12). A line that was in I, which rule R41 takes for
missing, is in the cache from then on, and L1D_REPL and L1D_M_REPL count nothing: only `l1dLineIn` brings a line in
(rule R256; DESIGN CHOICE, log entry 12). -/
def State.setL1dState (s : State) (x : CoreId) (line : Nat) (st : LineState) : State :=
  if st = .i && isModified (s.core x).l1d line then s.evictL1d x line
  else s.modCore x fun c => { c with l1d := setLine c.l1d line st }

/-- A modified line is written back from the L1 data cache to the L2 cache, where it is then modified (rules R79 and
R233). Where the L2 cache does not hold it, it is put there in M and no line is allocated for a request, so L2_LINES_IN
does not count it: inclusion between the levels is not in the source, and rule R232 names requests only (DESIGN CHOICE,
log entry 46). -/
def State.writeBack (s : State) (x : CoreId) (line : Nat) : State :=
  { s with l2 := setLine s.l2 line .m }.begin (.found x .modifiedLineToL2)

/-- The line is modified in the L1 data cache of a core. -/
def State.modifiedInL1d (s : State) (line : Nat) : Bool := s.cores.any fun y => isModified (s.core y).l1d line

/-- A line leaves the L2 cache because of a request of core `x`; a modified one is written back to memory, an explicit
writeback on the bus, unless it is modified in one of the L1 data caches (rules R79, R235 and R274). Which core the
writeback is for the source does not say; it is given to `x` (DESIGN CHOICE, log entry 46). -/
def State.evictL2 (s : State) (x : CoreId) (line : Nat) (hwPrefetch : Bool) : State :=
  ({ s with l2 := setLine s.l2 line .i }.followedBy
    (if isModified s.l2 line && !s.modifiedInL1d line then
      [.busTrans ⟨.explicitWriteback, .thisProcessor, some x, true, s.unstated .writebackNeedsSnoop⟩] else [])).begin
    (.found x (.l2LineOut hwPrefetch (isModified s.l2 line)))

/-- A line of the L2 cache gets another state, and no event counts that. A modified line that becomes I so, without an
eviction, is invalidated by a snoop request: it is written back to memory, an implicit writeback on the bus (rules R17,
R79 and R274). For which core the source does not say: for none; nor does it name, as it does for an eviction, a case in
which there is no writeback (DESIGN CHOICE, log entries 12 and 46). -/
def State.setL2State (s : State) (line : Nat) (st : LineState) : State :=
  { s with l2 := setLine s.l2 line st }.followedBy
    (if st = LineState.i && isModified s.l2 line then
      [.busTrans ⟨.implicitWriteback, .thisProcessor, none, true, s.unstated .writebackNeedsSnoop⟩] else [])

/-- A line that a prefetch brings into the L1 data cache, where it is missing there. -/
def State.fillL1d (s : State) (x : CoreId) (line : Nat) (st : LineState) : List Input :=
  if lineState (s.core x).l1d line = .i then [.l1dLineIn x line st] else []

/-- A line that a prefetch brings into the L2 cache, where it is missing there. -/
def State.fillL2 (s : State) (x : CoreId) (line : Nat) (st : LineState) (hwPrefetch : Bool) : List Input :=
  if lineState s.l2 line = .i then [.l2LineIn x line st hwPrefetch] else []

/-- Where a software prefetch brings its line: prefetchNTA to the L1 data cache, prefetchT0 to it and the L2 cache,
prefetchT1 and prefetchT2 to the L2 cache (rule R80; log entry 47). Its L2 line is one of a demand request, `false`: the
setting that is no demand request selects L2 hardware prefetch requests, and a software prefetch is none; the source
says of demand only "as opposed to a prefetch" (rules R16, R17 and R232; DESIGN CHOICE, log entry 47). -/
def State.prefetchFills (s : State) (x : CoreId) (k : SsePrefetch) (line : Nat) (st : LineState) : List Input :=
  match k with
  | .nta => s.fillL1d x line st
  | .t0 => s.fillL2 x line st false ++ s.fillL1d x line st
  | .t1 | .t2 => s.fillL2 x line st false

/-- A software prefetch that has started ends, and its line comes in. -/
def State.endPrefetch (s : State) (x : CoreId) (k : SsePrefetch) (addr : Nat) (st : LineState) : State :=
  let line := lineOf s.params addr
  if (s.core x).prefetching.contains (k, line) then
    (s.modCore x fun c => { c with prefetching := c.prefetching.erase (k, line) }).followedBy
      (s.prefetchFills x k line st)
  else s

/-- A request of the Data Prefetch Logic to the L2 cache: it cannot be cancelled, and its line is fetched to the L2
cache (rule R80). -/
def State.prefetchByDpl (s : State) (x : CoreId) (d : Direction) (line : Nat) (st : LineState) : State :=
  (s.followedBy (s.fillL2 x line st true)).begin (.found x (.dplPrefetch d))

/-! ## The bus -/

/-- An L2 request moves to the bus queue, or is delayed (rules R40 (f) and R243; log entry 45). -/
def State.requestBus (s : State) (x : CoreId) (r : L2Req) (set : Nat) : State :=
  if (s.core x).canQueue set then s.modCore x fun c => { c with busQueue := c.busQueue ++ [.line set] }
  else s.begin (.found x (.l2Reject r (lineState s.l2 r.line)))

/-- An IO request moves to the bus queue, where it is not full (rules R40 (f) and R290). -/
def Core.requestIo (c : Core) : Core := if c.pipe.busQueueFull then c else { c with busQueue := c.busQueue ++ [.io] }

/-- The interrupt that a transaction brings to a core of this processor (rule R505). -/
def State.interruptBrought (s : State) (t : BusTrans) : List Input :=
  match t.kind with
  | .interrupt (some y) => if s.hasCore y then [.interrupt y] else []
  | _ => []

/-- A transaction is submitted on the bus, or held back while none can be (rule R560). This is the one moment of a
transaction: a completed I/O transaction is counted in it, by its flag `completed` (rule R279; DESIGN CHOICE, log entry
62). So is a deferred one: BUS_TRANS_DEF names "deferred transactions" and BUS_TRANS_ANY "Deferred transaction
completion", and whether a deferral and its completion are one transaction or two, and at which of the two it counts,
the source does not say (rules R81, R280 and R283). They are one transaction, which both rows count once, here (DESIGN
CHOICE, log entries 56 and 62). -/
def State.submit (s : State) (t : BusTrans) : State :=
  if s.canSubmit t then (s.followedBy (s.interruptBrought t)).begin (.sys (.busTrans t))
  else { s with heldBack := s.heldBack ++ [t] }

/-- A core receives an interrupt, which pends until it is taken; its acknowledgment drains the store buffer (rules R33,
R69, R504 and R505). -/
def State.receiveInterrupt (s : State) (x : CoreId) : State :=
  (s.modCore x fun c => { c.drain .interruptAcknowledgment with intPending := c.intPending + 1 }).begin
    (.found x .interruptReceived)

/-! ## Inputs -/

/-- What an input other than an operation of software on counters does. That an MMX instruction sets the MMX state, EMMS
clears it and a floating-point instruction leaves it is the model's choice (rule R38; DESIGN CHOICE, log entry 14). So
is that the input `setRegs`, which gives the registers their values from outside, is no write of them by an instruction,
whatever it changes: it makes no moment, RAT_STALLS.FPSW adds nothing, no stall starts and no ITLB is flushed (rules
R78, R382, R383 and R397; DESIGN CHOICE, log entry 9). Which instructions cause a segment rename the source does not
say, and the worked example of rule R384 has loads of ES: here the input `segmentLoad` never renames nor stalls, and
`segmentUpdate` alone does (rules R208, R384 and R389; DESIGN CHOICE, log entry 24). "Most segment register loads are
internally serialized", and whether such a load is a serializing operation that drains the store buffer the source,
which defines neither word, does not say: `segmentLoad` by itself drains and holds back nothing (rules R74 and R208;
DESIGN CHOICE, log entry 24). When an executed software prefetch starts prefetching the source does not say: the
occurrence `ssePrefetch` and the input `prefetchStart` are two inputs, neither of which brings about the other (rules
R80 and R209 to R211; DESIGN CHOICE, log entry 47). The inputs `halt` and `wake` change the halt state alone: all other
state stays (rule R526; DESIGN CHOICE, log entry 67), and nothing waits for `wake` (rule R17; DESIGN CHOICE, log entry
38). -/
def State.advance (s : State) (i : Input) : State :=
  match i with
  | .startFixed x => s.startFixedCounters x
  | .tick t => s.tickClock t
  | .setPipe x p => s.modCore x fun c => { c with pipe := p }
  | .setPredictors x p => s.modCore x fun c => { c with predictors := p }
  | .enterPipe x load store => s.modCore x (·.enter s.params load store)
  | .execute x => s.modCore x (·.executed)
  | .abandon x n fences loads => s.modCore x (·.abandoned n fences loads)
  | .nuke x k n fences loads => s.restart x k n fences loads
  | .storeWait x => s.modCore x (·.storeWaits)
  | .storeCommit x => s.modCore x (·.storeCommits)
  | .drain x cause => s.modCore x (·.drain cause)
  | .fence x => s.modCore x (·.fence)
  | .ioRequest x => s.modCore x (·.requestIo)
  | .busRequest x r set => s.requestBus x r set
  | .dequeue x e => s.modCore x fun c => { c with busQueue := c.busQueue.erase e }
  | .setRegs x r => s.modCore x fun c => { c with regs := r }
  | .setBus b => { s with bus := b }
  | .halt x _ => s.modCore x fun c => { c with halted := true }
  | .wake x => s.modCore x fun c => { c with halted := false }
  | .transition x t => s.makeTransition x t
  | .temperature t => s.setTemperature t
  | .millisecond => s.thermalCheck
  | .disableInterrupts x b => s.modCore x fun c => { c with intDisabled := b }
  | .interrupt x => s.receiveInterrupt x
  | .takeInterrupt x => if interruptTakeable (s.core x) then
      s.modCore x fun c => { c with intPending := c.intPending - 1 } else s
  | .occ x o => s.occur x o
  | .segmentLoad x r v retires => (s.modCore x fun c =>
      if retires then c.setSegment r { c.segment r with value := v } else c).begin (.found x .segmentLoad)
  | .segmentUpdate x r => s.updateSegment x r
  | .segmentRetire x r => s.modCore x fun c => c.setSegment r { c.segment r with renamed := false }
  | .dataAccess x k page => s.lookupDtlb x k page
  | .setTlb x t => s.modCore x fun c => { c with tlb := t }
  | .pageWalkStart x uncacheable => s.startPageWalk x uncacheable
  | .pageWalkEnd x uncacheable => s.endPageWalk x uncacheable
  | .fpOp x o => s.begin (.found x (.fpOp (assistRequired (s.core x).regs.daz (s.core x).regs.ftz o)))
  | .l2LineIn x line st hw => { s with l2 := setLine s.l2 line st }.begin (.found x (.l2LineIn hw))
  | .l2LineOut x line hw => s.evictL2 x line hw
  | .l2LineState line st => s.setL2State line st
  | .l2Request x r =>
    s.begin (.found x (.l2Request r (lineState (s.core x).l1d r.line = LineState.i) (lineState s.l2 r.line)))
  | .l2Reject x r => s.begin (.found x (.l2Reject r (lineState s.l2 r.line)))
  | .dataRef x a => s.makeRef x a
  | .retiredRef x a => s.makeRetiredRef x a
  | .l1dLineIn x line st => (s.modCore x fun c => { c with l1d := setLine c.l1d line st }).begin
      (.found x (.l1dLineIn (st = LineState.m)))
  | .l1dLineOut x line => s.evictL1d x line
  | .writeBackToL2 x line => s.writeBack x line
  | .l1dLineState x line st => s.setL1dState x line st
  | .l1iLineState x line st => s.modCore x fun c => { c with l1i := setLine c.l1i line st }
  | .loadSent x b => s.sendLoad x b
  | .prefetchStart x k a => s.modCore x fun c => { c with prefetching := (k, lineOf s.params a) :: c.prefetching }
  | .prefetchEnd x k a st => s.endPrefetch x k a st
  | .lockEnd x a => s.endLock x a
  | .coreSnoop x line k after => s.snoopCore x line k after
  | .fetch x f => s.fetchInst x f
  | .itlbFlush x => s.flushItlb x
  | .controlWrite x toCr3 v flushes => s.writeControl x toCr3 v flushes
  | .lengthDecode x d => s.decodeLength x d
  | .espImplicit x add => (s.modCore x fun c => { c with espImplicit := true }).begin (.found x (.espImplicit add))
  | .espExplicit x => s.useEsp x
  | .fpInst x => (s.modCore x fun c => { c with lastFpMmx := .floatingPoint }).begin
      (.found x (.fpInst ((s.core x).lastFpMmx = .mmx)))
  | .mmxInst x => (s.modCore x fun c =>
      { c with lastFpMmx := .mmx, regs := { c.regs with mmxState := true } }).begin
      (.found x (.mmxInst ((s.core x).lastFpMmx = .floatingPoint)))
  | .emms x => (s.modCore x fun c => { c with regs := { c.regs with mmxState := false } }).begin (.found x .simdAssist)
  | .retire x u => s.retire x u
  | .fpswWrite x v => (s.modCore x fun c =>
      { c with regs := { c.regs with fpsw := v }, fpswStallLeft := c.fpswStallLeft + 2 }).begin (.found x .fpswWritten)
  | .fpcwWrite x v => s.modCore x fun c => { c with regs := { c.regs with fpcw := v } }
  | .dplPrefetch x d line st => s.prefetchByDpl x d line st
  | .bnr a => { s with bnrLeft := s.bnrLeft + 2 }.begin (.sys (.bnr a))
  | .snoopStall a x => { s with snoopStallLeft := s.snoopStallLeft + 2 }.begin (.sys (.snoopStall a x))
  | .busTrans t => s.submit t
  | .snoopResponse r giver requester => s.begin (.sys (.snoopResponse r giver requester))
  | .select _ _ _ _ | .read _ | .readMsr _ _ | .writeMsr _ _ _ => s

/-- `select` (rule R27): an index outside 0 to N_GP-1 is refused (93_implementation_defined.md row 8). -/
def State.acceptSelect (s : State) (x : CoreId) (k : Nat) (e u : Byte) : Host.Outcome State Fault Refusal :=
  if k < (s.core x).gp.length then .next (s.selectEvent x k e u) else .refused .counterIndex

/-- `read` (rule R27): an index outside 0 to N_GP-1 is refused (93_implementation_defined.md row 8). -/
def State.acceptRead (s : State) (c : CounterId) : Host.Outcome State Fault Refusal :=
  if s.hasCounter c then .next (s.readCounter c) else .refused .counterIndex

/-- A read by register address (rule R84): of a counter, `read`; of an event-select register, an operation the spec
does not give software (log entry 32). -/
def State.acceptReadMsr (s : State) (x : CoreId) (a : Nat) : Host.Outcome State Fault Refusal :=
  match registerAt s.params a with
  | some (.fixed f) => .next (s.readCounter (.fixed x f))
  | some (.pmc k) => s.acceptRead (.gp x k)
  | some (.evtsel _) => .refused .evtselRead
  | none => .refused .msrOutsideSpec

/-- A write by register address (rule R84): of an event-select register, `select` of the pair in the word (D4); of a
counter, refused (93_implementation_defined.md row 9). -/
def State.acceptWriteMsr (s : State) (x : CoreId) (a w : Nat) : Host.Outcome State Fault Refusal :=
  match registerAt s.params a with
  | some (.evtsel k) => s.acceptSelect x k (wordEventNum s.params w) (wordUmask s.params w)
  | some _ => .refused .counterWrite
  | none => .refused .msrOutsideSpec

/-- The machine accepts one input of the history. An input that names a counter may name any core that exists: the
source does not say whether software on one core reaches the counters of the other (rule R44; DESIGN CHOICE, log entry
48). -/
def State.accept (s : State) (i : Input) : Host.Outcome State Fault Refusal :=
  if i.core?.all s.hasCore then
    match i with
    | .select x k e u => s.acceptSelect x k e u
    | .read c => s.acceptRead c
    | .readMsr x a => s.acceptReadMsr x a
    | .writeMsr x a w => s.acceptWriteMsr x a w
    | i => .next (s.advance i)
  else .refused .noSuchCore

end Sys2Proof.Machine
end

