-- ==== Sys2Proof/Machine/Step.lean ====
section
/-! DEFINITION. Step.lean: one step of the machine, and where it fetches its next instruction.

The instruction of a step is the event selected by the counter whose turn it is (rule R114). When every counter has been
served the machine accepts the next input of the history; when the history has ended it stays as it is. -/

namespace Sys2Proof.Machine

/-- One step. -/
def step (s : State) : Host.Outcome State Fault Refusal :=
  match s.turn with
  | c :: rest => match s.fetch c with
    | none => .next (s.served rest)
    | some i => match exec i s with
      | .next t => .next (t.served rest)
      | .fault f => .fault f
      | .refused r => .refused r
  | [] => match s.queue with
    | [] => .next s
    | i :: rest => { s with queue := rest }.accept i

/-- The state in which the next step runs the instruction of the word `w`: an event code stands in `EVTSEL[0]` of core
0, and that counter is served next; the address of a fixed-function counter makes that counter of core 0 the one to be
served next (log entry 8). -/
def State.withFetchWord (s : State) (_nbits w : Nat) : State :=
  match decodeCode (BitVec.ofNat 16 w), fixedAt w with
  | none, some f => { s.modCore .c0 (fun c => { c with fixedStarted := true }) with turn := .fixed .c0 f :: s.turn }
  | _, _ =>
    { s.modCore .c0 (fun c => { c with
        gp := c.gp.modify 0 fun g => { g with
          selected := true
          eventNum := EventCode.eventNum (BitVec.ofNat 16 w)
          umask := EventCode.umask (BitVec.ofNat 16 w) } }) with
      turn := .gp .c0 0 :: s.turn }

end Sys2Proof.Machine
end

