-- ==== Sys2Proof/Machine/Rows.lean ====
section
/-! DEFINITION. Rows.lean: what a row of spec/opcode_table.json says of its event beside the encoding (rule R104): the format,
the unit of the count, the tags, and the documented discrepancies. -/

namespace Sys2Proof

/-- The four formats of a row (rule R104). -/
inductive RowFormat where
  | fixedUmask | composedUmask | architectural | fixedCounter
  deriving DecidableEq, Repr

/-- What a row counts (rules R12, R14 and R104): occurrences, cycles of a clock, or a quantity added each cycle. -/
inductive CountUnit where
  | occurrences | unnamedCycles | coreCycles | busCycles | refCycles | accumulation
  deriving DecidableEq, Repr

/-- The format of a row. -/
def Instr.format (i : Instr) : RowFormat :=
  match i with
  | .archUnhaltedCoreCycles | .archUnhaltedReferenceCycles | .archInstructionRetired | .archLlcReference |
    .archLlcMisses | .archBranchInstructionRetired | .archBranchMissesRetired => .architectural
  | .fixedInstrRetiredAny | .fixedCpuClkUnhaltedCore | .fixedCpuClkUnhaltedRef => .fixedCounter
  | .l2Ads _ | .l2DbusBusyRd _ | .l2LinesIn _ | .l2MLinesIn _ | .l2LinesOut _ | .l2MLinesOut _ | .l2Ifetch _ |
    .l2Ld _ | .l2St _ | .l2Lock _ | .l2Rqsts _ | .l2RejectBusq _ | .l2NoReq _ | .l1dCacheLd _ | .l1dCacheSt _ |
    .l1dCacheLock _ | .busRequestOutstanding _ | .busBnrDrv _ | .busDrdyClocks _ | .busLockClocks _ |
    .busDataRcv _ | .busTransBrd _ | .busTransRfo _ | .busTransWb _ | .busTransIfetch _ | .busTransInvalid _ |
    .busTransPwr _ | .busTransP _ | .busTransIo _ | .busTransDef _ | .busTransBurst _ | .busTransMem _ |
    .busTransAny _ | .extSnoop _ | .cmpSnoop _ | .busHitDrv _ | .busHitmDrv _ | .busqEmpty _ | .snoopStallDrv _
    | .busIoWait _ => .composedUmask
  | _ => .fixedUmask

/-- The unit of a row. -/
def Instr.unit (i : Instr) : CountUnit :=
  match i with
  | .sbDrainCycles | .storeBlockOrder | .storeBlockSnoop | .memoryDisambiguationReset | .cyclesDivBusy |
    .idleDuringDiv | .delayedBypassLoad | .l2Ads _ | .l2DbusBusyRd _ | .l2NoReq _ | .l1dCacheLockDuration |
    .busqEmpty _ | .instQueueFull | .cyclesL1lMemStalled | .ildStall | .rsUopsDispatchedPort0 |
    .rsUopsDispatchedPort1 | .rsUopsDispatchedPort2 | .rsUopsDispatchedPort3 | .rsUopsDispatchedPort4 |
    .rsUopsDispatchedPort5 | .cyclesIntMasked | .cyclesIntPendingAndMasked | .ratStallsRobReadPort |
    .ratStallsPartialCycles | .ratStallsFlags | .ratStallsAny | .resourceStallsRobFull | .resourceStallsRsFull |
    .resourceStallsLdSt | .resourceStallsFpcw | .resourceStallsBrMissClear | .resourceStallsAny => .unnamedCycles
  | .archUnhaltedCoreCycles | .fixedCpuClkUnhaltedCore | .pageWalksCycles | .cpuClkUnhaltedCoreP | .busIoWait _ => .coreCycles
  | .archUnhaltedReferenceCycles | .cpuClkUnhaltedBus | .cpuClkUnhaltedNoOther | .busDrdyClocks _ |
    .busLockClocks _ | .busDataRcv _ | .busHitDrv _ | .busHitmDrv _ => .busCycles
  | .fixedCpuClkUnhaltedRef => .refCycles
  | .l1dPendMiss | .busRequestOutstanding _ => .accumulation
  | _ => .occurrences

/-- The row says that the count includes occurrences that may not retire (rule R15). -/
def Instr.speculative (i : Instr) : Bool :=
  match i with
  | .segmentRegLoads | .dtlbMissesAny | .dtlbMissesMissLd | .dtlbMissesL0MissLd | .dtlbMissesMissSt |
    .ssePreMissNta | .ssePreMissL1 | .ssePreMissL2 | .brInstExec | .brCndExec | .macroInstsDecoded |
    .brInstDecoded => true
  | _ => false

/-- The row says that the count is greater than or equal to the number of operations affected (rule R6). -/
def Instr.overCounts (i : Instr) : Bool :=
  match i with
  | .loadBlockSta | .loadBlockStd | .loadBlockUntilRetire | .loadBlockL1d | .l2RejectBusq _ => true
  | _ => false

/-- The event of the row is precise (rule R510): of the eight rows that say so, and of Branch Misses Retired, a second
name of one of them (rules R111 and R146). -/
def Instr.precise (i : Instr) : Bool :=
  match i with
  | .x87OpsRetiredAny | .brInstRetiredMispred | .archBranchMissesRetired | .simdInstRetiredAny |
    .memLoadRetiredL1dMiss | .memLoadRetiredL1dLineMiss | .memLoadRetiredL2Miss | .memLoadRetiredL2LineMiss | .memLoadRetiredDtlbMiss => true
  | _ => false

/-- The row is, or is a second name of, an architectural event: six rows say so, and 3CH/01H is the seventh by its
code (rules R7 and R111). -/
def Instr.isArchitectural (i : Instr) : Bool :=
  match i with
  | .archUnhaltedCoreCycles | .archUnhaltedReferenceCycles | .archInstructionRetired | .archLlcReference |
    .archLlcMisses | .archBranchInstructionRetired | .archBranchMissesRetired | .l2RqstsSelfDemandIState |
    .l2RqstsSelfDemandMesi | .cpuClkUnhaltedCoreP | .cpuClkUnhaltedBus | .instRetiredAnyP | .brInstRetiredAny |
    .brInstRetiredMispred => true
  | _ => false

end Sys2Proof
end

