-- ==== Sys2Proof/Safety.lean ====
section
/-! DEFINITION. Safety.lean: the terms in which claims about the machine are made: the invariant of its states, what it
means that an event counts, and the parts of the state that no event may touch. -/

namespace Sys2Proof.Machine

/-- What holds of the pipeline of a core: the instructions, loads and stores in it are within their limits (rules R394
to R396), the stores that have retired, in the store buffer or not yet, are stores of the pipeline (rules R67 and R69),
an instruction that waits for previous stores waits for at least one store of the pipeline and is one of those that wait
for execution (rule R73), those that wait for execution are among those that wait for retirement (rule R15), the store
buffer drains only while something is in it (rule R69), and the bus queue holds no two entries for lines of one set
(rule R40 (f)). -/
structure Core.pipelineWf (c : Core) (p : Params) : Prop where
  retirement : c.inFlight.retirement ≤ p.robLimit
  execution : c.inFlight.execution ≤ p.rsLimit
  loads : c.inFlight.loads ≤ p.loadLimit
  stores : c.inFlight.stores ≤ p.storeLimit
  buffered : c.uncommitted ≤ c.inFlight.stores
  fenced : ∀ n ∈ c.fences, 0 < n ∧ n ≤ c.inFlight.stores
  draining : c.draining.isSome = true → c.storeBuffer ≠ []
  busSets : ∀ n, c.busQueue.count (.line n) ≤ 1
  unexecuted : c.fences.length ≤ c.inFlight.execution
  unretired : c.inFlight.execution ≤ c.inFlight.retirement

/-- What has to hold of a core for a micro-op to retire: it executes nothing at retirement while the store buffer drains
(rule R69), no load or locked access that it executes then is blocked by a store (rules R67 and R202), and the
instructions it completes are in the pipe and have executed, those that wait for previous stores being among those that
have not (rules R15 and R73; log entries 43 and 44). -/
structure Core.canRetire (c : Core) (u : RetiredUop) : Prop where
  drained : c.draining = none ∨ ∀ r ∈ u.completes, r.atRetirement = [] ∧ r.locks = []
  unblocked : ∀ r ∈ u.completes, ∀ a ∈ r.atRetirement ++ r.locks, a.write = false →
    ∀ st, (a.bytes, st) ∉ c.blocked.untilCommit
  executed : u.completes.length + c.inFlight.execution ≤ c.inFlight.retirement

/-- The invariant of the machine's states. -/
structure State.Inv (s : State) : Prop where
  /-- The parameters meet what the spec demands of them (rule R9). -/
  params : s.params.wf = true
  /-- Every core has N_GP general-purpose counters (rule R21). -/
  counters : ∀ x, (s.core x).gp.length = s.params.nGp
  /-- A general-purpose counter holds a value of CTR_WIDTH bits (rule R26). -/
  gpWidth : ∀ x, ∀ g ∈ (s.core x).gp, g.pmc < 2 ^ s.params.ctrWidth
  /-- A fixed-function counter holds a value of CTR_WIDTH bits (rules R23 to R26). -/
  fixedWidth : ∀ x f, ((s.core x).fixedCtr f).value < 2 ^ s.params.ctrWidth
  /-- What `read` answered is a value of CTR_WIDTH bits (rules R26 and R112). -/
  readWidth : ∀ v ∈ s.readout, v < 2 ^ s.params.ctrWidth
  /-- The lines of the caches are in canonical form (rule R41). -/
  l2Lines : linesWf s.l2 = true
  l1dLines : ∀ x, linesWf (s.core x).l1d = true
  l1iLines : ∀ x, linesWf (s.core x).l1i = true
  /-- Only counters that exist are served (rules R21 and R23 to R25). -/
  turnExists : ∀ c ∈ s.turn, s.hasCounter c = true
  /-- A transaction waits only while it cannot be submitted (rule R560). -/
  heldBack : ∀ t ∈ s.heldBack, s.canSubmit t = false
  /-- The pipeline of a core keeps its bounds. -/
  pipeline : ∀ x, (s.core x).pipelineWf s.params
  /-- A processor hotter than the threshold has tripped (rule R31). -/
  hot : exceedsTrip s.params s.thermal.temperature = true → s.thermal.tripped = true

/-- The moment is a cycle of the clock that a row does not name, for a counter of core `x` (rule R14 (d), D8). -/
def atCycle (s : State) (x : CoreId) (m : Moment) : Prop := m = .tick (unnamedTick s x)

/-- The event `i` counts `n` of each moment: on every general-purpose counter that is served, `exec` answers the next
state in which that counter has gained that number, and nothing else is done (rule R12). -/
def CountsNumber (i : Instr) (n : State → CoreId → Moment → Nat) : Prop :=
  ∀ (s : State) (x : CoreId) (k : Nat) (rest : List CounterId), s.turn = .gp x k :: rest →
    exec i s = .next (s.addTo (.gp x k) (n s x s.now))

/-- The event `i` counts the moments `p`: on every general-purpose counter that is served, `exec` answers the next state
in which that counter has gained 1 where the moment is one of them, and the state as it is where it is not (rule
R12). -/
def CountsEach (i : Instr) (p : State → CoreId → Moment → Prop) : Prop :=
  ∀ (s : State) (x : CoreId) (k : Nat) (rest : List CounterId), s.turn = .gp x k :: rest →
    (p s x s.now → exec i s = .next (s.addTo (.gp x k) 1)) ∧ (¬p s x s.now → exec i s = .next s)

/-- The event `i` counts the retired instructions `p` of its core: a moment in which a micro-op retires is worth the
number of such instructions it completes, any other moment nothing (rule R334). -/
def CountsRetired (i : Instr) (p : RetiredInst → Bool) : Prop :=
  CountsNumber i fun _ x m => match m with
    | .found y (.retired u) => if y = x then u.completes.countP p else 0
    | _ => 0

/-- The composed row `i` counts `n` of each moment under every unit mask that its qualifier tables accept; under any
other unit mask it leaves the state as it is (rules R105, R112 and R114). -/
def CountsNumberQualified (i : Byte → Instr) (n : State → Settings → CoreId → Moment → Nat) : Prop :=
  ∀ (s : State) (x : CoreId) (k : Nat) (rest : List CounterId) (u : Byte), s.turn = .gp x k :: rest →
    (∀ q, decodeSettings s.params (i u).qualifiers u = some q →
      exec (i u) s = .next (s.addTo (.gp x k) (n s q x s.now))) ∧
    (decodeSettings s.params (i u).qualifiers u = none → exec (i u) s = .next s)

/-- The composed row `i` counts the moments `p` under every unit mask that its qualifier tables accept; under any other
unit mask it leaves the state as it is (rules R105, R112 and R114). -/
def CountsEachQualified (i : Byte → Instr) (p : State → Settings → CoreId → Moment → Prop) : Prop :=
  ∀ (s : State) (x : CoreId) (k : Nat) (rest : List CounterId) (u : Byte), s.turn = .gp x k :: rest →
    (∀ q, decodeSettings s.params (i u).qualifiers u = some q →
      (p s q x s.now → exec (i u) s = .next (s.addTo (.gp x k) 1)) ∧ (¬p s q x s.now → exec (i u) s = .next s)) ∧
    (decodeSettings s.params (i u).qualifiers u = none → exec (i u) s = .next s)

/-- The event of the fixed-function counter `f` counts `n` of each moment on that counter (rule R117). -/
def CountsFixed (i : Instr) (f : FixedId) (n : State → CoreId → Moment → Nat) : Prop :=
  ∀ (s : State) (x : CoreId) (rest : List CounterId), s.turn = .fixed x f :: rest →
    exec i s = .next (s.addTo (.fixed x f) (n s x s.now))

/-- The nominal count of a counter (rule R12); 0 of a counter that does not exist. -/
def State.nominal (s : State) (c : CounterId) : Nat :=
  match c with
  | .gp x k => (((s.core x).gp[k]?).map (·.nominal)).getD 0
  | .fixed x f => ((s.core x).fixedCtr f).nominal

/-- The value a counter holds (rules R21 and R23 to R25); 0 of a counter that does not exist. -/
def State.value (s : State) (c : CounterId) : Nat :=
  match c with
  | .gp x k => (((s.core x).gp[k]?).map (·.pmc)).getD 0
  | .fixed x f => ((s.core x).fixedCtr f).value

/-- What the nominal count of the counter being served gains when the event `i` is counted. -/
def gain (i : Instr) (s : State) : Nat :=
  match exec i s, s.turn with
  | .next t, c :: _ => t.nominal c - s.nominal c
  | _, _ => 0

/-- Two settings agree on a qualifier. -/
def agreeOn (a b : Settings) (k : Qualifier) : Prop :=
  match k with
  | .core => a.core = b.core
  | .agent => a.agent = b.agent
  | .prefetch => a.prefetch = b.prefetch
  | .mesi => a.mesi = b.mesi
  | .snoopResp => a.snoopResp = b.snoopResp
  | .snoopType => a.snoopType = b.snoopType

/-- A counter is counting: it exists, and it has a selection or, a fixed-function counter, has been started (rules R21
and R43). -/
def State.isCounting (s : State) (c : CounterId) : Prop :=
  s.hasCounter c = true ∧ match c with
    | .gp x k => ∃ g, (s.core x).gp[k]? = some g ∧ g.selected = true
    | .fixed x _ => (s.core x).fixedStarted = true

/-- What a core's state is beside its counters. -/
def Core.activity (c : Core) : Core :=
  { c with gp := [], fixed0 := .reset, fixed1 := .reset, fixed2 := .reset }

/-- The state beside the counters and the number of free values drawn: the processor state that event conditions read
(rules R28 to R42), the bus, the caches, the history, the moment, the parameters and the last answer of `read`. -/
def State.activity (s : State) : State :=
  { s with core0 := s.core0.activity, core1 := s.core1.activity, drawn := 0 }

/-- The selections of a core: which counters have one, and the pairs in `EVTSEL` (rule R21). -/
def Core.selections (c : Core) : List (Bool × Byte × Byte) := c.gp.map fun g => (g.selected, g.eventNum, g.umask)

/-- The cycle at which a row counts on a counter of core `x` (rules R12, R14 and R104): none for a row that counts
occurrences. L1D_PEND_MISS accumulates in core cycles (rule R259), BUS_REQUEST_OUTSTANDING in cycles of a clock its row
does not name (rule R267). -/
def countingTick (i : Instr) (s : State) (x : CoreId) : Option Tick :=
  match i.unit with
  | .occurrences => none
  | .coreCycles => some (.core x)
  | .busCycles => some .bus
  | .refCycles => some .ref
  | .unnamedCycles => some (unnamedTick s x)
  | .accumulation => some (if i = .l1dPendMiss then .core x else unnamedTick s x)

end Sys2Proof.Machine
end

