-- ==== Sys2Proof/Certificates/Slice0/Obligations.lean ====
section
/-! DEFINITION. Obligations.lean: the statements for the provers. Every rule R<n> is a rule of spec/. Statements whose
docstring names a log entry rest, there, on a choice of the model. -/

open Sys2Proof Sys2Proof.Machine

/-! ## What each event counts, file by file (rules R140 to R404) -/

/-- Rules R140 to R146: the seven architectural events. Of an access of a page walk as an LLC reference the source says
nothing (log entry 5): `isL2Rqst`. That a completed request counts when it is made: log entry 62. -/
def Obligations.ArchitecturalEventsCount : Prop :=
  CountsEach .archUnhaltedCoreCycles (fun s x m => m = .tick (.core x) ∧ (s.core x).halted = false) ∧
  CountsEach .archUnhaltedReferenceCycles (fun s x m => m = .tick .bus ∧ (s.core x).halted = false) ∧
  CountsRetired .archInstructionRetired (fun _ => true) ∧
  CountsEach .archLlcReference (fun s x m => ∃ r missed st, m = .found x (.l2Request r missed st) ∧ r.completed = true ∧
    r.kind ≠ .hwPrefetch ∧ s.isL2Rqst r.kind = true) ∧
  CountsEach .archLlcMisses (fun s x m => ∃ r missed, m = .found x (.l2Request r missed .i) ∧ r.completed = true ∧
    r.kind ≠ .hwPrefetch ∧ s.isL2Rqst r.kind = true) ∧
  CountsRetired .archBranchInstructionRetired (fun r => r.branch.isSome) ∧
  CountsRetired .archBranchMissesRetired (fun r => r.branch.any (·.mispredicted))

/-- Rules R150 to R152: the three fixed-function events, each on its own counter. -/
def Obligations.FixedFunctionEventsCount : Prop :=
  CountsFixed .fixedInstrRetiredAny .ctr0 (fun _ x m => match m with
    | .found y (.retired u) => if y = x then u.completes.length else 0
    | _ => 0) ∧
  CountsFixed .fixedCpuClkUnhaltedCore .ctr1
    (fun s x m => if m = .tick (.core x) ∧ (s.core x).halted = false then 1 else 0) ∧
  CountsFixed .fixedCpuClkUnhaltedRef .ctr2
    (fun s x m => if m = .tick .ref ∧ (s.core x).halted = false then 1 else 0)

/-- Rules R200 to R229: the events of 03H to 19H, those that count occurrences and those that count cycles. That the
triggers of the LOAD_BLOCK rows are checked against the accesses and the state is the model's reading (log entries 10
and 17). That DTLB_MISSES.ANY and .MISS_LD count only a miss of the DTLB as a whole is the spec's own inference in rule
R76 ("a DTLB miss ... is a miss of the DTLB as a whole, distinguished from a DTLB0 miss [derived]"), which rule R215
leaves open: log entry 34. That a snoop for the other core uses the store port for one cycle is log entry 46. Whether
data that a load has just brought in is generated by another unit the source does not say (log entry 5). That
IDLE_DURING_DIV takes any load in progress for one: log entry 55; that misses may exceed the maximum, and that all of
them are compared with it: log entry 59. -/
def Obligations.LoadStoreEventsCount : Prop :=
  CountsEach .loadBlockSta (fun _ x m => m = .occ x (.loadBlocked .unknownAddress)) ∧
  CountsEach .loadBlockStd (fun _ x m => ∃ load store, m = .occ x (.loadBlocked (.unknownData load store)) ∧
    load.addr = store.addr) ∧
  CountsEach .loadBlockOverlapStore (fun _ x m => m = .occ x (.loadBlocked .overlapUnlisted) ∨
    ∃ load store, m = .occ x (.loadBlocked (.overlap load store)) ∧ overlapBlocks load store = true) ∧
  CountsEach .loadBlockUntilRetire (fun _ x m => ∃ load, m = .occ x (.loadBlocked (.untilRetire load))) ∧
  CountsEach .loadBlockL1d (fun s x m => ∃ t, m = .occ x (.loadBlocked (.l1d t)) ∧ s.triggerHolds x t = true) ∧
  CountsEach .segmentRegLoads (fun _ x m => m = .found x .segmentLoad) ∧
  CountsEach .ssePreExecNta (fun _ x m => ∃ missed, m = .occ x (.ssePrefetch .nta missed)) ∧
  CountsEach .ssePreExecL1 (fun _ x m => ∃ missed, m = .occ x (.ssePrefetch .t0 missed)) ∧
  CountsEach .ssePreExecL2 (fun _ x m => ∃ missed, m = .occ x (.ssePrefetch .t1 missed) ∨
    m = .occ x (.ssePrefetch .t2 missed)) ∧
  CountsEach .ssePreExecStores (fun _ x m => m = .occ x .nonTemporalStore) ∧
  CountsEach .dtlbMissesAny (fun _ x m => ∃ k missedL0, m = .found x (.dtlbLookup k missedL0 true)) ∧
  CountsEach .dtlbMissesMissLd (fun _ x m => ∃ missedL0, m = .found x (.dtlbLookup .load missedL0 true)) ∧
  CountsEach .dtlbMissesL0MissLd (fun _ x m => ∃ missed, m = .found x (.dtlbLookup .load true missed)) ∧
  CountsEach .dtlbMissesMissSt (fun _ x m => ∃ missedL0, m = .found x (.dtlbLookup .store missedL0 true)) ∧
  CountsEach .memoryDisambiguationSuccess (fun _ x m => m = .occ x .disambiguated) ∧
  CountsEach .pageWalksCount (fun _ x m => m = .found x .pageWalk) ∧
  CountsEach .fpCompOpsExe (fun _ x m => m = .occ x .fpComputationalUop) ∧
  CountsEach .fpAssist (fun _ x m => m = .found x (.fpOp true)) ∧
  CountsEach .mul (fun _ x m => ∃ k, m = .occ x (.multiply k)) ∧
  CountsEach .div (fun _ x m => ∃ k, m = .occ x (.divide k)) ∧
  CountsEach .delayedBypassFp (fun s x m => ∃ source, m = .occ x (.bypass .floating source) ∧ source ≠ .floating ∧
    (source = .load → s.unstated .loadedDataBypass = true)) ∧
  CountsEach .delayedBypassSimd (fun s x m => ∃ source, m = .occ x (.bypass .simd source) ∧ source ≠ .simd ∧
    (source = .load → s.unstated .loadedDataBypass = true)) ∧
  CountsEach .sbDrainCycles (fun s x m => atCycle s x m ∧ (s.core x).draining ≠ none) ∧
  CountsEach .storeBlockOrder (fun s x m => atCycle s x m ∧ (s.core x).pipe.storeWaitsForOrder = true) ∧
  CountsEach .storeBlockSnoop (fun s x m => atCycle s x m ∧
    ((s.core x).pipe.storePortSnooping = true ∨ (s.core x).portSnooping = true) ∧
    (s.core x).pipe.storeStalledBySnoop = true) ∧
  CountsEach .memoryDisambiguationReset
    (fun s x m => atCycle s x m ∧ (s.core x).pipe.disambiguationMispredicted = true) ∧
  CountsEach .pageWalksCycles (fun s x m => m = .tick (.core x) ∧ 0 < (s.core x).pageWalks) ∧
  CountsEach .cyclesDivBusy (fun s x m => atCycle s x m ∧ (s.core x).pipe.dividerBusy = true) ∧
  CountsEach .idleDuringDiv (fun s x m => atCycle s x m ∧ (s.core x).pipe.dividerBusy = true ∧
    (s.core x).pipe.otherUnitBusy = false ∧ (s.core x).pipe.loadInProgress = false) ∧
  CountsEach .delayedBypassLoad (fun s x m => atCycle s x m ∧ (s.core x).pipe.loadBypassPenalty = true)

/-- Rules R28 and R230 to R249: the events of 21H to 3CH. Of a locked access, an L1 data prefetch and an access of a
page walk as an L2 read, of a locked access as an L2 store, of an access of a page walk as a request, and of
CPU_CLK_UNHALTED.NO_OTHER on a processor with one core the source says nothing (log entry 5): `isL2Read`, `isL2Store`,
`isL2Rqst`, `noOtherCore`. How the cores combine under BOTH_CORE, which transitions count, that a write is no L2 read,
and that for L2_NO_REQ a core that is halted while the other is not counts as one with no request pending is the model's
reading (log entries 15, 21, 41 and 51). That a request misses the L1 data cache is read of that cache at the request
(O48). That a completed request counts when it is made: log entry 62. That a request of a page walk is a demand request,
under which L2_REJECT_BUSQ counts a delayed one, is the model's choice: log entry 69. -/
def Obligations.L2AndClockEventsCount : Prop :=
  CountsEachQualified .l2Ads (fun s q x m => atCycle s x m ∧
    ∃ y ∈ s.selectedCores q x, (s.core y).pipe.l2AddressBus = true) ∧
  CountsEachQualified .l2DbusBusyRd (fun s q x m => atCycle s x m ∧
    ∃ y ∈ s.selectedCores q x, (s.core y).pipe.l2DataBus = true) ∧
  CountsEachQualified .l2LinesIn (fun _ q x m => ∃ y hw, m = .found y (.l2LineIn hw) ∧ q.coreSel x y = true ∧
    q.pfSel hw = true) ∧
  CountsEachQualified .l2MLinesIn (fun _ q x m => ∃ y, m = .found y .modifiedLineToL2 ∧ q.coreSel x y = true) ∧
  CountsEachQualified .l2LinesOut (fun _ q x m => ∃ y hw modified, m = .found y (.l2LineOut hw modified) ∧
    q.coreSel x y = true ∧ q.pfSel hw = true) ∧
  CountsEachQualified .l2MLinesOut (fun _ q x m => ∃ y hw, m = .found y (.l2LineOut hw true) ∧
    q.coreSel x y = true ∧ q.pfSel hw = true) ∧
  CountsEachQualified .l2Ifetch (fun _ q x m => ∃ y r missed st, m = .found y (.l2Request r missed st) ∧ q.coreSel x y = true ∧
    q.mesiSel st = true ∧ r.kind = .ifetch ∧ r.cacheable = true) ∧
  CountsEachQualified .l2Ld (fun s q x m => ∃ y r missed st, m = .found y (.l2Request r missed st) ∧ q.coreSel x y = true ∧
    q.mesiSel st = true ∧ q.pfSel r.hwPrefetch = true ∧ s.isL2Read r.kind = true) ∧
  CountsEachQualified .l2St (fun s q x m => ∃ y r missed st, m = .found y (.l2Request r missed st) ∧ q.coreSel x y = true ∧
    q.mesiSel st = true ∧ missed = true ∧ s.isL2Store r.kind = true) ∧
  CountsEachQualified .l2Lock (fun _ q x m => ∃ y r missed st, m = .found y (.l2Request r missed st) ∧ q.coreSel x y = true ∧
    q.mesiSel st = true ∧ missed = true ∧ r.kind = .l1dLock) ∧
  CountsEachQualified .l2Rqsts (fun s q x m => ∃ y r missed st, m = .found y (.l2Request r missed st) ∧ q.coreSel x y = true ∧
    q.mesiSel st = true ∧ r.completed = true ∧ q.pfSel r.hwPrefetch = true ∧ s.isL2Rqst r.kind = true) ∧
  CountsEachQualified .l2RejectBusq (fun _ q x m => ∃ y r st, m = .found y (.l2Reject r st) ∧
    q.coreSel x y = true ∧ q.mesiSel st = true ∧ q.pfSel r.hwPrefetch = true) ∧
  CountsEachQualified .l2NoReq (fun s q x m => atCycle s x m ∧
    ∀ y ∈ s.selectedCores q x, (s.core y).pipe.l2Pending = 0 ∨
      (s.hasCore y.other = true ∧ (s.core y).halted = true ∧ (s.core y.other).halted = false)) ∧
  CountsEach .l2RqstsSelfDemandIState (fun s x m => ∃ r missed, m = .found x (.l2Request r missed .i) ∧ r.completed = true ∧
    r.kind ≠ .hwPrefetch ∧ s.isL2Rqst r.kind = true) ∧
  CountsEach .l2RqstsSelfDemandMesi (fun s x m => ∃ r missed st, m = .found x (.l2Request r missed st) ∧ r.completed = true ∧
    r.kind ≠ .hwPrefetch ∧ s.isL2Rqst r.kind = true) ∧
  CountsEach .eistTrans (fun _ x m => m = .found x (.transition true)) ∧
  CountsEach .thermalTrip (fun _ _ m => m = .sys .thermalTrip) ∧
  CountsEach .cpuClkUnhaltedCoreP (fun s x m => m = .tick (.core x) ∧ (s.core x).halted = false) ∧
  CountsEach .cpuClkUnhaltedBus (fun s x m => m = .tick .bus ∧ (s.core x).halted = false) ∧
  CountsEach .cpuClkUnhaltedNoOther (fun s x m => m = .tick .bus ∧ (s.core x).halted = false ∧
    if s.params.nCores = 1 then s.unstated .noOtherCore = true else (s.core x.other).halted = true)

/-- Rules R250 to R266: the events of 40H to 4EH. Which of the two lines of a split access gives its state, and whether
a miss of a software prefetch of cacheable memory and an L1D prefetch request that is submitted again are counted, the
source does not say (log entry 5): `mesiOf`, `countsMiss`, `resubmittedPrefetch`. That L1D_ALL_CACHE_REF leaves out
locked writes, and that write through and write combine memory is no cacheable memory for it and for the three L1D_CACHE
rows, is the model's reading (log entry 16). That a line which only changes its state is none that is brought in: log
entry 12. A split access is one reference, counted once: log entry 57. L1D_ALL_REF counts every reference, I/O accesses
included (rule R254); that L1D_PEND_MISS counts no I/O access: log entry 65. -/
def Obligations.L1DataEventsCount : Prop :=
  CountsEachQualified .l1dCacheLd (fun s q x m => ∃ a first last, m = .found x (.dataRef a first last) ∧
    a.write = false ∧ a.locked = false ∧ a.memType = .cacheable ∧ s.mesiOf q first last = true) ∧
  CountsEachQualified .l1dCacheSt (fun s q x m => ∃ a first last, m = .found x (.dataRef a first last) ∧
    a.write = true ∧ a.locked = false ∧ a.memType = .cacheable ∧ s.mesiOf q first last = true) ∧
  CountsEachQualified .l1dCacheLock (fun s q x m => ∃ a first last, m = .found x (.dataRef a first last) ∧
    a.write = false ∧ a.locked = true ∧ a.memType = .cacheable ∧ s.mesiOf q first last = true) ∧
  CountsEach .l1dCacheLockDuration (fun s x m => atCycle s x m ∧ (s.core x).lockedLines ≠ []) ∧
  CountsEach .l1dAllRef (fun _ x m => ∃ a first last, m = .found x (.dataRef a first last)) ∧
  CountsEach .l1dAllCacheRef (fun _ x m => ∃ a first last, m = .found x (.dataRef a first last) ∧
    a.memType = .cacheable ∧ ¬(a.write = true ∧ a.locked = true)) ∧
  CountsEach .l1dRepl (fun _ x m => ∃ modified, m = .found x (.l1dLineIn modified)) ∧
  CountsEach .l1dMRepl (fun _ x m => m = .found x (.l1dLineIn true)) ∧
  CountsEach .l1dMEvict (fun _ x m => m = .found x (.l1dLineOut true)) ∧
  CountsNumber .l1dPendMiss (fun s x m =>
    if m = .tick (.core x) then ((s.core x).pipe.misses.filter s.countsMiss).length else 0) ∧
  CountsEach .l1dSplitLoads (fun s x m => ∃ a first last, m = .found x (.dataRef a first last) ∧ a.write = false ∧
    a.bytes.addr / s.params.lineBytes ≠ (a.bytes.addr + a.bytes.size - 1) / s.params.lineBytes) ∧
  CountsEach .l1dSplitStores (fun s x m => ∃ a first last, m = .found x (.dataRef a first last) ∧ a.write = true ∧
    a.bytes.addr / s.params.lineBytes ≠ (a.bytes.addr + a.bytes.size - 1) / s.params.lineBytes) ∧
  CountsEach .ssePreMissNta (fun _ x m => m = .occ x (.ssePrefetch .nta true)) ∧
  CountsEach .ssePreMissL1 (fun _ x m => m = .occ x (.ssePrefetch .t0 true)) ∧
  CountsEach .ssePreMissL2 (fun _ x m => m = .occ x (.ssePrefetch .t1 true) ∨ m = .occ x (.ssePrefetch .t2 true)) ∧
  CountsEach .loadHitPre (fun _ x m => m = .found x (.loadSent true)) ∧
  CountsEach .l1dPrefetchRequests (fun s x m => ∃ rejected again, m = .occ x (.l1dPrefetch rejected again) ∧
    (again = true → s.unstated .resubmittedPrefetch = true))

/-- Rules R267 to R271 and R284 to R290: the events of 60H to 64H and 77H to 7FH. What is counted of another agent under
SELF and ALL_AGENTS, and what BUSQ_EMPTY counts under BOTH_CORE with one queue empty, the source does not say (log entry
5): `busSel`, `busQueueEmpty`. That SELF leaves out what this processor does for no core: log entry 50. EXT_SNOOP under
THIS_AGENT: log entry 39. That under BOTH_CORE the rows of core cycles count at the cycles of the counter's own core is
the model's reading (log entry 21), that a halted core counts as idle for BUSQ_EMPTY log entry 51. That any agent that
drives HIT# or HITM# counts under ALL_AGENTS: log entry 61. -/
def Obligations.BusSignalEventsCount : Prop :=
  CountsNumberQualified .busRequestOutstanding (fun s q x m =>
    if m = .tick (unnamedTick s x) then
      (s.bus.pending.filter fun r => r.counted && s.busSel q x r.agent r.core).length else 0) ∧
  CountsEachQualified .busBnrDrv (fun _ q _ m => ∃ a, m = .sys (.bnr a) ∧ q.agentSel a = true) ∧
  CountsEachQualified .busDrdyClocks (fun s q _ m => m = .tick .bus ∧ ∃ a ∈ s.bus.dataSent, q.agentSel a = true) ∧
  CountsEachQualified .busLockClocks (fun s q x m => m = .tick .bus ∧
    ∃ a c, (a, c) ∈ s.bus.lock ∧ s.busSel q x a c = true) ∧
  CountsEachQualified .busDataRcv (fun s q x m => m = .tick .bus ∧ ∃ y ∈ s.bus.receiving, q.coreSel x y = true) ∧
  CountsEachQualified .extSnoop (fun _ q _ m => ∃ r giver requester, m = .sys (.snoopResponse r giver requester) ∧
    q.snoopRespSel r = true ∧
    (q.agent = .allAgents ∨ giver = .thisProcessor ∧ requester = .thisProcessor)) ∧
  CountsEachQualified .cmpSnoop (fun _ q x m => ∃ y k, m = .found y (.coreSnoop k) ∧ q.coreSel x y = true ∧
    q.snoopTypeSel k = true) ∧
  CountsEachQualified .busHitDrv (fun s q _ m => m = .tick .bus ∧ ∃ a ∈ s.bus.hitDriven, q.agentSel a = true) ∧
  CountsEachQualified .busHitmDrv (fun s q _ m => m = .tick .bus ∧ ∃ a ∈ s.bus.hitmDriven, q.agentSel a = true) ∧
  CountsEachQualified .busqEmpty (fun s q x m => atCycle s x m ∧ s.busQueueEmpty q x = true) ∧
  CountsEachQualified .snoopStallDrv (fun s q x m => ∃ a c, m = .sys (.snoopStall a c) ∧ s.busSel q x a c = true) ∧
  CountsEachQualified .busIoWait (fun s q x m => m = .tick (.core x) ∧
    ∃ y ∈ s.selectedCores q x, .io ∈ (s.core y).busQueue)

/-- Rules R272 to R283: the bus transaction events of 65H to 70H. What is counted of another agent under SELF and
ALL_AGENTS, and whether an implicit writeback is a burst, the source does not say (log entry 5): `busSel`, `isBurst`.
That SELF leaves out what this processor does for no core: log entry 50. That every instruction fetch transaction is a
burst read, so that BUS_TRANS_BRD contains BUS_TRANS_IFETCH, is what rule R81 calls suggested "and not said outright":
log entry 42. A deferred transaction is a kind of its own, its deferral and its completion being one transaction that is
counted once: log entries 56 and 62. That a completed I/O transaction is counted when it is submitted: log entry 62. -/
def Obligations.BusTransactionEventsCount : Prop :=
  let counts := fun (i : Byte → Instr) (p : State → BusTrans → Prop) =>
    CountsEachQualified i fun s q x m =>
      ∃ t, m = .sys (.busTrans t) ∧ s.busSel q x t.agent t.core = true ∧ p s t
  counts .busTransBrd (fun _ t => ∃ r, t.kind = .burstRead r) ∧
  counts .busTransRfo (fun _ t => t.kind = .readForOwnership) ∧
  counts .busTransWb (fun _ t => t.kind = .explicitWriteback) ∧
  counts .busTransIfetch (fun _ t => t.kind = .burstRead .ifu) ∧
  counts .busTransInvalid (fun _ t => t.kind = .invalidate) ∧
  counts .busTransPwr (fun _ t => t.kind = .partialWrite) ∧
  counts .busTransP (fun _ t => t.kind = .partialRead ∨ t.kind = .partialWrite) ∧
  counts .busTransIo (fun _ t => t.kind = .io ∧ t.completed = true) ∧
  counts .busTransDef (fun _ t => t.kind = .deferred) ∧
  counts .busTransBurst (fun s t => s.isBurst t.kind = true) ∧
  counts .busTransMem (fun s t => s.isBurst t.kind = true ∨ t.kind = .partialRead ∨ t.kind = .partialWrite ∨
    t.kind = .invalidate) ∧
  counts .busTransAny (fun _ _ => True)

/-- Rules R291 to R299, R315 to R325: the events of 80H to 87H and A0H to ABH. Log entries 14, 26, 28 and 52 say what
the model reads into ESP, slow decoding, dispatch and a full instruction queue, log entry 60 into complex instructions
that are decoded one at a time. -/
def Obligations.FrontEndEventsCount : Prop :=
  CountsEach .l1lReads (fun _ x m => ∃ f missed, m = .found x (.fetch f missed)) ∧
  CountsEach .l1lMisses (fun _ x m => ∃ f missed, m = .found x (.fetch f missed) ∧
    (f.missesIfu = true ∨ f.memoryRequest = true ∨ f.uncacheable = true)) ∧
  CountsEach .itlbSmallMiss (fun s x m => ∃ f, m = .found x (.fetch f true) ∧ f.page.bytes = s.params.smallPage) ∧
  CountsEach .itlbLargeMiss (fun s x m => ∃ f, m = .found x (.fetch f true) ∧ f.page.bytes = s.params.largePage) ∧
  CountsEach .itlbFlush (fun _ x m => m = .found x .itlbFlush) ∧
  CountsEach .itlbMisses (fun s x m => ∃ f, m = .found x (.fetch f true) ∧
    (f.page.bytes = s.params.smallPage ∨ f.page.bytes = s.params.largePage)) ∧
  CountsEach .instQueueFull (fun s x m => atCycle s x m ∧ (s.core x).pipe.instQueueFull = true) ∧
  CountsEach .cyclesL1lMemStalled (fun s x m => atCycle s x m ∧ (s.core x).pipe.fetchStalled = true) ∧
  CountsEach .ildStall (fun s x m => atCycle s x m ∧ (s.core x).slowDecoding = true) ∧
  CountsNumber .rsUopsDispatched
    (fun s x m => if m = .tick (unnamedTick s x) then (s.core x).pipe.dispatched else 0) ∧
  CountsEach .rsUopsDispatchedPort0 (fun s x m => atCycle s x m ∧ (s.core x).pipe.port0 = true) ∧
  CountsEach .rsUopsDispatchedPort1 (fun s x m => atCycle s x m ∧ (s.core x).pipe.port1 = true) ∧
  CountsEach .rsUopsDispatchedPort2 (fun s x m => atCycle s x m ∧ (s.core x).pipe.port2 = true) ∧
  CountsEach .rsUopsDispatchedPort3 (fun s x m => atCycle s x m ∧ (s.core x).pipe.port3 = true) ∧
  CountsEach .rsUopsDispatchedPort4 (fun s x m => atCycle s x m ∧ (s.core x).pipe.port4 = true) ∧
  CountsEach .rsUopsDispatchedPort5 (fun s x m => atCycle s x m ∧ (s.core x).pipe.port5 = true) ∧
  CountsEach .macroInstsDecoded (fun _ x m => ∃ complex branch, m = .occ x (.decoded complex branch)) ∧
  CountsEach .macroInstsCiscDecoded (fun _ x m => ∃ branch, m = .occ x (.decoded true branch)) ∧
  CountsEach .espSynch (fun _ x m => m = .found x .espSynch) ∧
  CountsEach .espAdditions (fun _ x m => m = .found x (.espImplicit true))

/-- Rules R300 to R314: the branch events of 88H to 98H. Micro-op branches are not counted (rule R300). Whether a RET or
an indirect CALL is an indirect branch, and which bubble event a one-cycle penalty goes to, the source does not say (log
entry 5): `isIndirect`, `bubbleOne`. Micro-op branches are counted by none (log entry 27). -/
def Obligations.BranchExecutedEventsCount : Prop :=
  let counts := fun (i : Instr) (p : State → Branch → Prop) =>
    CountsEach i fun s x m => ∃ b, m = .occ x (.branchExecuted b) ∧ b.microOp = false ∧ p s b
  counts .brInstExec (fun _ _ => True) ∧
  counts .brMispExec (fun _ b => b.mispredicted = true) ∧
  counts .brBacMispExec (fun _ b => b.mispredictedAtDecode = true) ∧
  counts .brCndExec (fun _ b => b.kind = .conditional) ∧
  counts .brCndMisspExec (fun _ b => b.kind = .conditional ∧ b.mispredicted = true) ∧
  counts .brIndExec (fun s b => s.isIndirect b = true) ∧
  counts .brIndMisspExec (fun s b => s.isIndirect b = true ∧ b.mispredicted = true) ∧
  counts .brRetExec (fun _ b => b.kind = .ret) ∧
  counts .brRetMisspExec (fun _ b => b.kind = .ret ∧ b.mispredicted = true) ∧
  counts .brRetBacMisspExec (fun _ b => b.kind = .ret ∧ b.mispredictedAtDecode = true) ∧
  counts .brCallExec (fun _ b => b.kind = .call ∨ b.kind = .indirectCall) ∧
  counts .brCallMisspExec (fun _ b => (b.kind = .call ∨ b.kind = .indirectCall) ∧ b.mispredicted = true) ∧
  counts .brIndCallExec (fun _ b => b.kind = .indirectCall) ∧
  CountsEach .brTknBubble1 (fun s x m => m = .occ x .takenBubble ∧ s.unstated .bubbleOne = true) ∧
  CountsEach .brTknBubble2 (fun s x m => m = .occ x .takenBubble ∧ s.unstated .bubbleOne = false)

/-- Rules R326 to R347: the events of B0H to C3H: SIMD micro-ops, instructions and micro-ops retired, pipeline restarts.
What a retired micro-op carries, and that it has at most one type of fusion: log entry 29. A SIMD micro-op may have
several types, and counts under each: log entry 53. -/
def Obligations.SimdUopAndRetirementEventsCount : Prop :=
  CountsEach .simdUopsExec (fun _ x m => ∃ u, m = .occ x (.simdUop u) ∧ u.movStore = false) ∧
  CountsEach .simdSatUopExec (fun _ x m => ∃ u, m = .occ x (.simdUop u) ∧ u.saturated = true) ∧
  CountsEach .simdUopTypeExecMul (fun _ x m => ∃ u, m = .occ x (.simdUop u) ∧ .mul ∈ u.types) ∧
  CountsEach .simdUopTypeExecShift (fun _ x m => ∃ u, m = .occ x (.simdUop u) ∧ .shift ∈ u.types) ∧
  CountsEach .simdUopTypeExecPack (fun _ x m => ∃ u, m = .occ x (.simdUop u) ∧ .pack ∈ u.types) ∧
  CountsEach .simdUopTypeExecUnpack (fun _ x m => ∃ u, m = .occ x (.simdUop u) ∧ .unpack ∈ u.types) ∧
  CountsEach .simdUopTypeExecLogical (fun _ x m => ∃ u, m = .occ x (.simdUop u) ∧ .logical ∈ u.types) ∧
  CountsEach .simdUopTypeExecArithmetic (fun _ x m => ∃ u, m = .occ x (.simdUop u) ∧ .arithmetic ∈ u.types) ∧
  CountsEach .x87OpsRetiredAny (fun _ x m => ∃ o, m = .occ x (.x87Retired o) ∧ o.computational = true ∧
    o.loadOrStore = false ∧ o.causedTrapOrAssist = false) ∧
  CountsEach .machineNukesSmc (fun _ x m => m = .found x (.nuke .selfModifyingCode)) ∧
  CountsEach .machineNukesMemOrder (fun _ x m => m = .found x (.nuke .memoryOrder) ∨
    m = .found x (.nuke .disambiguation)) ∧
  (let uops := fun (i : Instr) (p : Option Fusion → Prop) =>
    CountsEach i fun _ x m => ∃ u, m = .found x (.retired u) ∧ p u.fusion
  CountsRetired .instRetiredAnyP (fun _ => true) ∧
  CountsRetired .instRetiredLoads (fun r => r.load) ∧
  CountsRetired .instRetiredStores (fun r => r.store.isSome) ∧
  CountsRetired .instRetiredOther (fun r => !(r.load || r.store.isSome)) ∧
  CountsRetired .x87OpsRetiredFxch (fun r => r.fxch) ∧
  uops .uopsRetiredLdIndBr (fun f => f = some .loadOp ∨ f = some .loadIndirectBranch) ∧
  uops .uopsRetiredStdSta (fun f => f = some .storeAddressData) ∧
  uops .uopsRetiredMacroFusion (fun f => f = some .macroFusion) ∧
  uops .uopsRetiredFused (fun f => f ≠ none) ∧
  uops .uopsRetiredNonFused (fun f => f = none) ∧
  uops .uopsRetiredAny (fun _ => True))

/-- Rules R348 to R378: the events of C4H to CFH. Whether a blocked load is counted by the two line-miss rows is open,
the source saying only that it might not be (log entry 5). Interrupts and EMMS: log entries 14 and 22. That loads from
write through and write combine memory are not from cacheable memory, and that SIMD_SAT_INSTR_RETIRED takes the SIMD
instructions of SIMD_INSTR_RETIRED, is the model's choice: log entries 16 and 54; so is that a split load counts once in
the two line-miss rows (log entry 57) and that the flag `computational` alone decides of an instruction with a memory
operand: log entry 63. -/
def Obligations.BranchSimdAndLoadRetiredCount : Prop :=
  (let loads := fun (i : Instr) (p : State → RetiredLoad → Prop) =>
    CountsEach i fun s x m => ∃ l, m = .occ x (.loadRetired l) ∧ l.memType = .cacheable ∧
      l.softwarePrefetch = false ∧ p s l
  CountsEach .cyclesIntMasked (fun s x m => atCycle s x m ∧ (s.core x).intDisabled = true) ∧
  CountsEach .cyclesIntPendingAndMasked
    (fun s x m => atCycle s x m ∧ (s.core x).intDisabled = true ∧ 0 < (s.core x).intPending) ∧
  CountsEach .hwIntRcv (fun _ x m => m = .found x .interruptReceived) ∧
  loads .memLoadRetiredL1dMiss (fun _ l => l.missedL1d = true) ∧
  loads .memLoadRetiredL1dLineMiss (fun s l => l.missedL1d = true ∧ l.lineInFlight = false ∧
    (l.blocked = true → s.unstated .blockedL1dLineMiss = true)) ∧
  loads .memLoadRetiredL2Miss (fun _ l => l.missedL2 = true) ∧
  loads .memLoadRetiredL2LineMiss (fun s l => l.missedL2 = true ∧ l.busInFlight = false ∧
    (l.blocked = true → s.unstated .blockedL2LineMiss = true)) ∧
  loads .memLoadRetiredDtlbMiss (fun _ l => l.missedDtlb = true ∧ l.faulted = false) ∧
  CountsEach .fpMmxTransToMmx (fun _ x m => m = .found x (.mmxInst true)) ∧
  CountsEach .fpMmxTransToFp (fun _ x m => m = .found x (.fpInst true)) ∧
  CountsEach .simdAssist (fun _ x m => m = .found x .simdAssist)) ∧
  (let branches := fun (i : Instr) (p : BranchOutcome → Bool) => CountsRetired i fun r => match r.branch with
    | some b => p b
    | none => false
  let simd := fun (i : Instr) (c : SimdClass) => CountsRetired i fun r => decide (r.simdClass = some c)
  let computational := fun (i : Instr) (c : SimdClass) =>
    CountsRetired i fun r => decide (r.simdClass = some c ∧ r.computational = true)
  branches .brInstRetiredAny (fun _ => true) ∧
  branches .brInstRetiredPredNotTaken (fun b => !b.mispredicted && !b.taken) ∧
  branches .brInstRetiredMispredNotTaken (fun b => b.mispredicted && !b.taken) ∧
  branches .brInstRetiredPredTaken (fun b => !b.mispredicted && b.taken) ∧
  branches .brInstRetiredMispredTaken (fun b => b.mispredicted && b.taken) ∧
  branches .brInstRetiredTaken (fun b => b.taken) ∧
  branches .brInstRetiredMispred (fun b => b.mispredicted) ∧
  simd .simdInstRetiredPackedSingle .packedSingle ∧
  simd .simdInstRetiredScalarSingle .scalarSingle ∧
  simd .simdInstRetiredPackedDouble .packedDouble ∧
  simd .simdInstRetiredScalarDouble .scalarDouble ∧
  simd .simdInstRetiredVector .vectorInteger ∧
  CountsRetired .simdInstRetiredAny (fun r => decide (r.simdClass ≠ none)) ∧
  CountsRetired .itlbMissRetired (fun r => r.missedItlb) ∧
  computational .simdCompInstRetiredPackedSingle .packedSingle ∧
  computational .simdCompInstRetiredScalarSingle .scalarSingle ∧
  computational .simdCompInstRetiredPackedDouble .packedDouble ∧
  computational .simdCompInstRetiredScalarDouble .scalarDouble ∧
  CountsRetired .simdInstrRetired (fun r => r.simd) ∧
  CountsRetired .simdSatInstrRetired (fun r => r.simd && r.saturated))

/-- Rules R379 to R404: the events of D2H to F8H. RAT_STALLS.FPSW adds 2 for each write of the FPU status word. The
model's reading of full structures, of FPSW stalls and of bogus branches: log entries 27 and 36; of the instructions
that wait for all previous stores: log entry 43. What the stalls hold back: log entry 58. -/
def Obligations.StallAndFrontEndEventsCount : Prop :=
  let cycles := fun (i : Instr) (p : State → Core → Prop) =>
    CountsEach i fun s x m => atCycle s x m ∧ p s (s.core x)
  cycles .ratStallsRobReadPort (fun _ c => c.pipe.robReadPortStall = true) ∧
  cycles .ratStallsPartialCycles (fun _ c => c.pipe.partialRegisterStall = true) ∧
  cycles .ratStallsFlags (fun _ c => c.pipe.flagStall = true) ∧
  CountsNumber .ratStallsFpsw (fun _ x m => if m = .found x .fpswWritten then 2 else 0) ∧
  cycles .ratStallsAny (fun _ c => c.pipe.robReadPortStall = true ∨ c.pipe.partialRegisterStall = true ∨
    c.pipe.flagStall = true ∨ c.fpswStalling = true) ∧
  CountsEach .segRenameStallsEs (fun _ x m => m = .found x (.segmentStalled .es)) ∧
  CountsEach .segRenameStallsDs (fun _ x m => m = .found x (.segmentStalled .ds)) ∧
  CountsEach .segRenameStallsFs (fun _ x m => m = .found x (.segmentStalled .fs)) ∧
  CountsEach .segRenameStallsGs (fun _ x m => m = .found x (.segmentStalled .gs)) ∧
  CountsEach .segRenameStallsAny (fun _ x m => ∃ r, m = .found x (.segmentStalled r)) ∧
  CountsEach .segRegRenamesEs (fun _ x m => m = .found x (.segmentRenamed .es)) ∧
  CountsEach .segRegRenamesDs (fun _ x m => m = .found x (.segmentRenamed .ds)) ∧
  CountsEach .segRegRenamesFs (fun _ x m => m = .found x (.segmentRenamed .fs)) ∧
  CountsEach .segRegRenamesGs (fun _ x m => m = .found x (.segmentRenamed .gs)) ∧
  CountsEach .segRegRenamesAny (fun _ x m => ∃ r, m = .found x (.segmentRenamed r)) ∧
  cycles .resourceStallsRobFull (fun s c => s.params.robLimit ≤ c.inFlight.retirement) ∧
  cycles .resourceStallsRsFull (fun s c => s.params.rsLimit ≤ c.inFlight.execution) ∧
  cycles .resourceStallsLdSt (fun s c => s.params.loadLimit ≤ c.inFlight.loads ∨
    s.params.storeLimit ≤ c.inFlight.stores ∨ c.fences ≠ []) ∧
  cycles .resourceStallsFpcw (fun _ c => c.pipe.fpcwStall = true) ∧
  cycles .resourceStallsBrMissClear (fun _ c => c.pipe.branchMissClear = true) ∧
  cycles .resourceStallsAny (fun s c => s.params.robLimit ≤ c.inFlight.retirement ∨
    s.params.rsLimit ≤ c.inFlight.execution ∨ s.params.loadLimit ≤ c.inFlight.loads ∨
    s.params.storeLimit ≤ c.inFlight.stores ∨ c.fences ≠ [] ∨ c.pipe.fpcwStall = true ∨
    c.pipe.branchMissClear = true) ∧
  CountsEach .brInstDecoded (fun _ x m => ∃ complex, m = .occ x (.decoded complex true)) ∧
  CountsEach .bogusBr (fun _ x m => m = .occ x .bogusBranch) ∧
  CountsEach .baclears (fun _ x m => m = .occ x .baclear ∨ m = .occ x .bogusBranch) ∧
  CountsEach .prefRqstsUp (fun _ x m => m = .found x (.dplPrefetch .upward)) ∧
  CountsEach .prefRqstsDn (fun _ x m => m = .found x (.dplPrefetch .downward))

/-! ## Six event rules, each stated whole -/

/-- Rule R307, BR_RET_EXEC: the pair 8FH/00H selects it, each RET instruction executed adds 1, nothing else adds
anything, nothing but the counter is written and nothing is raised. That a branch of micro-code is not counted is the
model's reading, rule R300 saying it of BR_INST_EXEC only: log entry 27. -/
def Obligations.RetExecutedRule : Prop :=
  encode .brRetExec = .select 0x8F 0x00 ∧ decode 0x8F 0x00 = some .brRetExec ∧
  (∀ s t, exec .brRetExec s = .next t → t.activity = s.activity) ∧
  CountsEach .brRetExec (fun _ x m => ∃ b, m = .occ x (.branchExecuted b) ∧ b.microOp = false ∧ b.kind = .ret)

/-- Rule R310, BR_CALL_EXEC: the pair 92H/00H; each CALL instruction executed adds 1. That an indirect CALL is a CALL is
the spec's own inference in rule R312 ("[derived: an indirect CALL is a CALL]"), that a branch of micro-code is not
counted the model's reading: log entry 27. -/
def Obligations.CallExecutedRule : Prop :=
  encode .brCallExec = .select 0x92 0x00 ∧ decode 0x92 0x00 = some .brCallExec ∧
  (∀ s t, exec .brCallExec s = .next t → t.activity = s.activity) ∧
  CountsEach .brCallExec (fun _ x m => ∃ b, m = .occ x (.branchExecuted b) ∧ b.microOp = false ∧
    (b.kind = .call ∨ b.kind = .indirectCall))

/-- Rule R327, SIMD_SAT_UOP_EXEC: the pair B1H/00H; each SIMD saturated arithmetic micro-op executed adds 1. -/
def Obligations.SaturatedSimdUopRule : Prop :=
  encode .simdSatUopExec = .select 0xB1 0x00 ∧ decode 0xB1 0x00 = some .simdSatUopExec ∧
  (∀ s t, exec .simdSatUopExec s = .next t → t.activity = s.activity) ∧
  CountsEach .simdSatUopExec (fun _ x m => ∃ u, m = .occ x (.simdUop u) ∧ u.saturated = true)

/-- Rule R344, UOPS_RETIRED.NON_FUSED: the pair C2H/08H; each micro-op retired that was not fused adds 1. -/
def Obligations.NonFusedUopRule : Prop :=
  encode .uopsRetiredNonFused = .select 0xC2 0x08 ∧ decode 0xC2 0x08 = some .uopsRetiredNonFused ∧
  (∀ s t, exec .uopsRetiredNonFused s = .next t → t.activity = s.activity) ∧
  CountsEach .uopsRetiredNonFused (fun _ x m => ∃ u, m = .found x (.retired u) ∧ u.fusion = none)

/-- Rule R351, BR_INST_RETIRED.PRED_TAKEN: the pair C4H/04H; each branch instruction retired that was correctly
predicted to be taken adds 1. A micro-op that retires can complete more than one instruction. -/
def Obligations.PredictedTakenRule : Prop :=
  encode .brInstRetiredPredTaken = .select 0xC4 0x04 ∧ decode 0xC4 0x04 = some .brInstRetiredPredTaken ∧
  (∀ s t, exec .brInstRetiredPredTaken s = .next t → t.activity = s.activity) ∧
  CountsRetired .brInstRetiredPredTaken (fun r => r.branch.any fun b => b.taken && !b.mispredicted)

/-! ## Encoding -/

/-- Rules R11, R23 to R25, R103, R112, R114 and R118: an event code is the pair in one number and gives the pair back; a
few pairs of the map, written out, decode to their events, the register addresses to theirs, and pairs that no row lists
to nothing. -/
def Obligations.PairsDecodeAsTheMapSays : Prop :=
  (∀ e u : Byte, (eventCode e u).eventNum = e ∧ (eventCode e u).umask = u ∧
    (eventCode e u).toNat = 256 * u.toNat + e.toNat) ∧
  decodeCode 0x0203 = some .loadBlockSta ∧ decodeCode 0x412E = some .l2RqstsSelfDemandIState ∧
  decodeCode 0xC03B = some .thermalTrip ∧ decodeCode 0x1042 = some .l1dCacheLockDuration ∧
  decodeCode 0x0F42 = some (.l1dCacheLock 0x0F) ∧ decodeCode 0xE065 = some (.busTransBrd 0xE0) ∧
  decodeCode 0x1282 = some .itlbMisses ∧ decodeCode 0xFEC1 = some .x87OpsRetiredAny ∧
  decodeCode 0x08C4 = some .brInstRetiredMispredTaken ∧ decodeCode 0x1FDC = some .resourceStallsAny ∧
  decodeMsr 0x30B = some .fixedCpuClkUnhaltedRef ∧
  ((∀ u : Byte, decode 0x00 u = none ∧ decode 0x05 u = none ∧ decode 0xFF u = none) ∧
  decode 0x3C 0x03 = none ∧ decode 0xC0 0x03 = none ∧ decode 0xC0 0x07 = none ∧ decode 0x43 0x01 = none ∧
  decode 0x3B 0x00 = none ∧ decode 0xC1 0xFF = none ∧ decode 0x82 0x52 = none ∧ decode 0xA1 0x03 = none)

/-- Rules R111, R114, R117 and R118: decoding what a well-formed instruction is encoded as gives the event it names:
from the encoding, and from the word in which spec/opcode_table.json numbers its bits. -/
def Obligations.DecodeEncodeAgree : Prop :=
  ∀ i : Instr, i.wellFormed = true →
    decodeEncoding (encode i) = some i.event ∧ decodeTableWord 16 (encode i).word = some i.event

/-- Rules R112, R114 and R118: the converse. Whatever a pair decodes to is well formed, is the event itself and not a
second name, is an event of Table A-3, and is encoded as that pair. -/
def Obligations.EncodeDecodeAgree : Prop :=
  ∀ (e u : Byte) (i : Instr), decode e u = some i →
    i.wellFormed = true ∧ i.event = i ∧ encode i = .select e u ∧
      (i.format = .fixedUmask ∨ i.format = .composedUmask)

/-- D14: UMASK_L1D_ALL_REF moves one row of event 43H and touches no other pair; 43H/02H stays L1D_ALL_CACHE_REF for
every value the parameters may have. -/
def Obligations.AllRefUmaskMovesOneRow : Prop :=
  ∀ (a e u : Byte), a ≠ 0x02 →
    (e ≠ 0x43 → decodeWith a e u = decode e u) ∧
    (e = 0x43 → decodeWith a e u =
      if u = a then some .l1dAllRef else if u = 0x02 then some .l1dAllCacheRef else none)

/-- Rules R105 and R113: for every composed row, the settings whose values are combined by OR are the settings its
decoder reads back, on each qualifier the row has. On a processor with one core the core field is reserved and must be
00B: the values of the other qualifiers combined leave these bits 00B and decode to their settings; that the core
setting read with them is SELF, that of the one core there is, is the model's choice (log entry 31). -/
def Obligations.ComposedUmaskRoundTrip : Prop :=
  ∀ (p : Params) (i : Instr) (q : Settings) (u : Byte), p.wf = true → i.format = .composedUmask →
    (p.nCores = 2 → encodeSettings p i.qualifiers q = some u →
      ∃ r, decodeSettings p i.qualifiers u = some r ∧ ∀ k ∈ i.qualifiers, agreeOn r q k) ∧
    (p.nCores = 1 → encodeSettings p (i.qualifiers.filter (· ≠ .core)) q = some u →
      ∃ r, decodeSettings p i.qualifiers u = some r ∧ (∀ k ∈ i.qualifiers, k ≠ .core → agreeOn r q k) ∧
        (.core ∈ i.qualifiers → u &&& p.core.field = 0 ∧ r.core = .self))

/-- Rules R107 (a), (b) and R114: 41H and 4FH are what SELF, DEMAND and I_STATE or MESI compose to, so that finding them
as rows of their own before the composed row of 2EH changes no count; 42H/10H is L1D_CACHE_LOCK_DURATION and no instance
of L1D_CACHE_LOCK, which accepts 10H under no choice of tables. -/
def Obligations.FixedRowsBesideComposedRows : Prop :=
  (∀ s : State, s.params.wf = true → s.params.nCores = 2 →
    exec (.l2Rqsts 0x41) s = exec .l2RqstsSelfDemandIState s ∧
    exec (.l2Rqsts 0x4F) s = exec .l2RqstsSelfDemandMesi s) ∧
  (decode 0x42 0x10 = some .l1dCacheLockDuration ∧
  ∀ s : State, s.params.wf = true → exec (.l1dCacheLock 0x10) s = .next s)

/-- Rule R113: on a processor with one core a unit mask whose core field is not 00B selects nothing known: it is counted
by no composed row with a core field, and the selection is not a listed one. A pair that a fixed row lists (2EH/41H) is
no selection of the composed row: well-formedness. That nothing is counted in the field of State is the model's reading
(log entry 20). -/
def Obligations.ReservedCoreFieldSelectsNothing : Prop :=
  ∀ (s : State) (i : Instr) (e u : Byte), s.params.nCores = 1 → Qualifier.core ∈ i.qualifiers →
    i.wellFormed = true → encode i = .select e u → u &&& s.params.core.field ≠ 0 →
    decodeSettings s.params i.qualifiers u = none ∧ decodeSelection s.params e u = none ∧ exec i s = .next s

/-- Rule R111, D15: an architectural event is a second name: it is counted as the event it names is, in every state. -/
def Obligations.ArchitecturalEventsAreSecondNames : Prop :=
  ∀ (i : Instr) (s : State), exec i.event s = exec i s

/-- Rules R23 to R25, R27, R43, R84 and R117: three register addresses name a fixed-function counter and its event. A
fixed-function counter is read by its name or its address: its value once counting has started, before that some value
of CTR_WIDTH bits that nothing fixes (log entry 4). The start, which sets the three counters of its core and their
nominal counts to 0 and changes nothing else, is the input `startFixed`, the model's choice of a point (log entry 37).
At the addresses the parameters give them, which the spec does not fix, stand `PMC[k]`, whose read is `read`, and
`EVTSEL[k]`, whose write is `select` of the pair in the word; a write to a counter of either kind, a read of an
event-select register and an access to any other address are refused, the model's choice where the rule says no more
than that it is outside the spec: log entries 1 and 32. -/
def Obligations.RegistersByAddress : Prop :=
  (fixedAt 0x309 = some .ctr0 ∧ fixedAt 0x30A = some .ctr1 ∧ fixedAt 0x30B = some .ctr2 ∧
  decodeMsr 0x309 = some .fixedInstrRetiredAny ∧ decodeMsr 0x30A = some .fixedCpuClkUnhaltedCore ∧
  decodeMsr 0x30B = some .fixedCpuClkUnhaltedRef ∧
  ∀ a : Nat, a ≠ 0x309 → a ≠ 0x30A → a ≠ 0x30B → fixedAt a = none ∧ decodeMsr a = none) ∧
  (∀ (s : State) (x : CoreId) (f : FixedId), s.hasCore x = true →
    s.accept (.readMsr x f.address) = s.accept (.read (.fixed x f)) ∧
    (∀ w : Nat, s.accept (.writeMsr x f.address w) = .refused .counterWrite) ∧
    ((s.core x).fixedStarted = true →
      s.accept (.read (.fixed x f)) = .next { s with readout := some ((s.core x).fixedCtr f).value }) ∧
    ((s.core x).fixedStarted = false → ∃ v, v < 2 ^ s.params.ctrWidth ∧
      s.accept (.read (.fixed x f)) = .next { s with readout := some v, drawn := s.drawn + 1 })) ∧
  (∀ (s : State) (x : CoreId), s.hasCore x = true → s.accept (.startFixed x) = .next (s.setCore x { s.core x with
    fixedStarted := true, fixed0 := ⟨0, 0⟩, fixed1 := ⟨0, 0⟩, fixed2 := ⟨0, 0⟩ })) ∧
  (∀ (s : State) (x : CoreId) (k a b w : Nat), s.hasCore x = true → s.params.wf = true →
    s.params.pmcAddrs[k]? = some a → s.params.evtselAddrs[k]? = some b →
      s.accept (.readMsr x a) = s.accept (.read (.gp x k)) ∧
      s.accept (.writeMsr x b w) = s.accept (.select x k (wordEventNum s.params w) (wordUmask s.params w)) ∧
      s.accept (.writeMsr x a w) = .refused .counterWrite ∧ s.accept (.readMsr x b) = .refused .evtselRead) ∧
  (∀ (s : State) (x : CoreId) (a w : Nat), s.hasCore x = true → a ∉ [0x309, 0x30A, 0x30B] → a ∉ s.params.pmcAddrs →
    a ∉ s.params.evtselAddrs →
      s.accept (.readMsr x a) = .refused .msrOutsideSpec ∧ s.accept (.writeMsr x a w) = .refused .msrOutsideSpec) ∧
  (∀ (p : Params) (e u : Byte), p.layout.eventLsb + 8 ≤ p.layout.umaskLsb ∨ p.layout.umaskLsb + 8 ≤ p.layout.eventLsb →
    wordEventNum p (evtselWord p e u) = e ∧ wordUmask p (evtselWord p e u) = u)

/-! ## Counters -/

/-- Rules R12, R21, R23 to R26: everything that counting `n` on a counter that exists does: its nominal count gains `n`;
where `n` is not 0 its value becomes `approx(N)` of the new count modulo `2^CTR_WIDTH`; every other counter, every
selection and all the rest of the machine stay as they are. That a counter that gains nothing keeps the value it shows
is the model's reading of `approx` (log entry 6). -/
def Obligations.CountingChangesOneCounter : Prop :=
  ∀ (s : State) (c : CounterId) (n : Nat), s.hasCounter c = true →
    (s.addTo c n).nominal c = s.nominal c + n ∧
    (n ≠ 0 → (s.addTo c n).value c = s.approx (s.nominal c + n) % 2 ^ s.params.ctrWidth) ∧
    (n = 0 → s.addTo c n = s) ∧
    (∀ d, d ≠ c → (s.addTo c n).nominal d = s.nominal d ∧ (s.addTo c n).value d = s.value d) ∧
    (∀ x, ((s.addTo c n).core x).selections = (s.core x).selections) ∧
    (s.addTo c n).activity = s.activity

/-- Rule R26: with an exact counter (APPROX_ERR 0) that holds its count modulo `2^CTR_WIDTH`, adding is addition modulo
`2^CTR_WIDTH`: it wraps, the nominal count does not, and no flag is set and nothing is raised. -/
def Obligations.CountersWrapSilently : Prop :=
  ∀ (s : State) (c : CounterId) (n : Nat), s.hasCounter c = true → s.params.approxErr = 0 →
    s.value c = s.nominal c % 2 ^ s.params.ctrWidth →
    (s.addTo c n).value c = (s.value c + n) % 2 ^ s.params.ctrWidth ∧
    (s.addTo c n).nominal c = s.nominal c + n ∧ (s.addTo c n).activity = s.activity

/-- Rule R13, D7: what a counter shows of a count is within APPROX_ERR of it, whichever value is drawn, and is the count
itself where APPROX_ERR is 0. -/
def Obligations.ApproxWithinError : Prop :=
  ∀ (s : State) (n : Nat), n - s.params.approxErr ≤ s.approx n ∧ s.approx n ≤ n + s.params.approxErr ∧
    (s.params.approxErr = 0 → s.approx n = n)

/-- Rules R27 and R112: `select` on an index inside 0 to N_GP-1 accepts any pair, writes it to `EVTSEL`, zeroes the
counter and the nominal count, and changes nothing else; an index outside is refused. -/
def Obligations.SelectWritesAndZeroes : Prop :=
  ∀ (s : State) (x : CoreId) (k : Nat) (e u : Byte), s.hasCore x = true →
    (k < (s.core x).gp.length → ∃ t, s.accept (.select x k e u) = .next t ∧
      (t.core x).gp[k]? = some ⟨true, e, u, 0, 0⟩ ∧
      (∀ c, c ≠ .gp x k → t.nominal c = s.nominal c ∧ t.value c = s.value c) ∧
      (∀ j, j ≠ k → (t.core x).gp[j]? = (s.core x).gp[j]?) ∧ (∀ y, y ≠ x → t.core y = s.core y) ∧
      t.activity = s.activity ∧ t.drawn = s.drawn) ∧
    ((s.core x).gp.length ≤ k → s.accept (.select x k e u) = .refused .counterIndex)

/-- Rules R27, R43, R112 and R113: a read of a general-purpose counter with a listed selection answers its value; of one
with no selection, or an unlisted one, it answers some value of CTR_WIDTH bits that nothing fixes (log entry 4). Nothing
else changes. A read of an index outside 0 to N_GP-1 is refused. -/
def Obligations.ReadAnswersTheCounter : Prop :=
  (∀ (s : State) (x : CoreId) (k : Nat), s.hasCore x = true → (s.core x).gp.length ≤ k →
    s.accept (.read (.gp x k)) = .refused .counterIndex) ∧
  ∀ (s : State) (x : CoreId) (k : Nat) (g : GpCounter), s.hasCore x = true → (s.core x).gp[k]? = some g →
    (g.selected = true → (decodeSelection s.params g.eventNum g.umask).isSome = true →
      s.accept (.read (.gp x k)) = .next { s with readout := some g.pmc }) ∧
    ((g.selected = false ∨ decodeSelection s.params g.eventNum g.umask = none) →
      ∃ v, v < 2 ^ s.params.ctrWidth ∧
        s.accept (.read (.gp x k)) = .next { s with readout := some v, drawn := s.drawn + 1 })

/-! ## The whole machine -/

/-- Rules R12, R18, R27, R500 and R543: no event raises anything, and none touches more than the one counter being
served: the processor state, the bus, the caches, the history, every selection and every other counter stay. -/
def Obligations.EventsTouchOnlyTheirCounter : Prop :=
  ∀ (i : Instr) (s : State), ∃ t, exec i s = .next t ∧ t.activity = s.activity ∧
    (∀ x, (t.core x).selections = (s.core x).selections) ∧
    (∀ c, s.nominal c ≤ t.nominal c) ∧
    (∀ c, s.turn.head? ≠ some c → t.nominal c = s.nominal c ∧ t.value c = s.value c)

/-- Rules R8, R117 and R543: an event of Table A-1 or A-3 counts on no fixed-function counter, and an event of Table A-2
on no counter but the one it is wired to. -/
def Obligations.EventsCountOnTheirKindOfCounter : Prop :=
  ∀ (i : Instr) (s : State) (x : CoreId) (rest : List CounterId),
    (∀ f, s.turn = .fixed x f :: rest → i.format ≠ .fixedCounter → exec i s = .next s) ∧
    (∀ k, s.turn = .gp x k :: rest → i.format = .fixedCounter → exec i s = .next s) ∧
    (∀ f, s.turn = .fixed x f :: rest → i.format = .fixedCounter → decodeMsr f.address ≠ some i →
      exec i s = .next s)

/-- Rules R21, R112, R114 and R117: a step runs the event the served counter's selection decodes to, in that state, and
then passes on to the next counter, changing nothing else; with an unlisted pair it passes on. When every counter has
been served it takes the next input of the history, and where there is none the machine stays as it is. That a step
serves one counter or takes one input is the model's (log entries 8, 9 and 20). -/
def Obligations.StepRunsTheDecodedEvent : Prop :=
  (∀ (s : State) (x : CoreId) (k : Nat) (rest : List CounterId) (g : GpCounter), s.turn = .gp x k :: rest →
    (s.core x).gp[k]? = some g → g.selected = true →
    (∀ i, decodeWith s.params.umaskAllRef g.eventNum g.umask = some i →
      ∃ t, exec i s = .next t ∧ step s = .next (t.served rest)) ∧
    (decodeWith s.params.umaskAllRef g.eventNum g.umask = none → step s = .next (s.served rest))) ∧
  (∀ (s : State) (x : CoreId) (f : FixedId) (rest : List CounterId) (i : Instr), s.turn = .fixed x f :: rest →
    decodeMsr f.address = some i → ∃ t, exec i s = .next t ∧ step s = .next (t.served rest)) ∧
  (∀ (s : State) (rest : List CounterId), s.served rest = { s with turn := rest }) ∧
  (∀ (s : State) (i : Input) (rest : List Input), s.turn = [] → s.queue = i :: rest →
    step s = ({ s with queue := rest }).accept i) ∧
  ∀ s : State, s.turn = [] → s.queue = [] → step s = .next s

/-- Rules R500 and R512, D16: no step faults, and a step refuses only an input that names a core, a counter or a
register the processor does not have, a write to a counter, or a read of an event-select register. An input about a core
that does not exist is always refused. Log entries 31 and 32. -/
def Obligations.StepRefusesOnlyUnknownNames : Prop :=
  (∀ (s : State) (i : Input) (x : CoreId), i.core? = some x → s.hasCore x = false →
    s.accept i = .refused .noSuchCore) ∧
  ∀ s : State, (∀ f, step s ≠ .fault f) ∧
    ∀ r, step s = .refused r → s.turn = [] ∧ ∃ i rest, s.queue = i :: rest ∧
      ((r = .noSuchCore ∧ ∃ x, i.core? = some x ∧ s.hasCore x = false) ∨
       (r = .counterIndex ∧ ((∃ x k e u, i = .select x k e u ∧ (s.core x).gp.length ≤ k) ∨
         (∃ c, i = .read c ∧ s.hasCounter c = false) ∨
         (∃ x a k, i = .readMsr x a ∧ registerAt s.params a = some (.pmc k) ∧ (s.core x).gp.length ≤ k) ∨
         ∃ x a w k, i = .writeMsr x a w ∧ registerAt s.params a = some (.evtsel k) ∧ (s.core x).gp.length ≤ k)) ∨
       (r = .counterWrite ∧ ∃ x a w, i = .writeMsr x a w ∧
         ((∃ f, registerAt s.params a = some (.fixed f)) ∨ ∃ k, registerAt s.params a = some (.pmc k))) ∨
       (r = .evtselRead ∧ ∃ x a k, i = .readMsr x a ∧ registerAt s.params a = some (.evtsel k)) ∨
       (r = .msrOutsideSpec ∧ ∃ x a, registerAt s.params a = none ∧ (i = .readMsr x a ∨ ∃ w, i = .writeMsr x a w)))

/-- Every step keeps the invariant: parameters as rule R9 has them, counters of CTR_WIDTH bits and as many as N_GP
(rules R21 and R26), a read answer of CTR_WIDTH bits, cache lines in canonical form (rule R41), only counters that exist
served, a transaction waiting only while it cannot be submitted (rule R560), a processor over the threshold tripped
(rule R31), and pipelines within their bounds: the limits of rules R394 to R396, a store buffer that drains only while
it holds stores of the pipeline (rule R69), an instruction that waits for previous stores only while one is in the
pipeline, and itself for execution (rule R73), one entry of the bus queue for a set (rule R40). Held back transactions,
the trip, the pipeline and the bus queue are the model's reading (log entries 13, 23, 43, 44 and 45), the demand that
small pages are smaller than large ones too (log entry 7). -/
def Obligations.StepKeepsInvariant : Prop :=
  ∀ s t : State, s.Inv → step s = .next t → t.Inv

/-- Right after reset the invariant holds, and, as rule R43 says, no counter has a selection; that no fixed-function
counter has started is the model's choice (log entry 3), and that the parameters meet rule R9 rests on the values the
model takes for them (log entries 1 and 2). -/
def Obligations.ResetMeetsInvariant : Prop :=
  State.reset.Inv ∧
  ((∀ x, ∀ g ∈ (State.reset.core x).gp, g.selected = false) ∧ (∀ x, (State.reset.core x).fixedStarted = false) ∧
  State.reset.listening = [] ∧ State.reset.turn = [])

/-- Rule R27: the counting hardware adds to a counter and nothing but `select` and the start of counting writes one
otherwise. In a step in which a counter's nominal count or its value changes, the counter was being served, and has
gained; or it was selected anew, by its number or by the address of its event-select register, or started, and is zero.
The start of counting: log entry 37; the register addresses: log entry 32. An input about one core leaves the other core
as it is, and one about no core leaves both, but for the temperature, the thermal check and the cycles of the bus and
the reference clock (rule R42; which inputs are about which core is the model's, log entry 9). -/
def Obligations.OnlyCountingAndSelectWriteCounters : Prop :=
  (∀ (s t : State) (i : Input) (y : CoreId), s.accept i = .next t →
    (∀ x, i.core? = some x → y ≠ x → t.core y = s.core y) ∧
    (i.core? = none → (∀ n, i ≠ .temperature n) → i ≠ .millisecond → (∀ k, i ≠ .tick k) → t.core y = s.core y)) ∧
  ∀ (s t : State) (c : CounterId), step s = .next t → (t.nominal c ≠ s.nominal c ∨ t.value c ≠ s.value c) →
    (s.turn.head? = some c ∧ s.nominal c < t.nominal c) ∨
    (s.turn = [] ∧ t.nominal c = 0 ∧ t.value c = 0 ∧ ∃ i rest, s.queue = i :: rest ∧
      ((∃ x k e u, i = .select x k e u ∧ c = .gp x k) ∨
       (∃ x a w k, i = .writeMsr x a w ∧ registerAt s.params a = some (.evtsel k) ∧ c = .gp x k) ∨
       ∃ x f, i = .startFixed x ∧ c = .fixed x f))

/-- Rules R503 and R513: a moment is served to every counter that is counting, once, and to no other; a plain occurrence
in a core and a snoop response on the bus are such moments and change nothing else. Whatever input the machine accepts,
it makes no moment and changes nothing of the one being served, or it makes one, which is served to every counter that
is then counting. Moments are the model's (log entry 9); so is that a software prefetch executed does not by itself
start prefetching (log entry 47). -/
def Obligations.MomentServesEveryCountingCounter : Prop :=
  (∀ (s : State) (m : Moment), (s.begin m).now = m ∧ (s.begin m).turn.Nodup ∧
    ∀ c, c ∈ (s.begin m).turn ↔ s.isCounting c) ∧
  (∀ (s : State) (x : CoreId) (o : Occ), s.hasCore x = true → (∀ b, o ≠ .loadBlocked b) →
    s.accept (.occ x o) = .next (s.begin (.occ x o))) ∧
  (∀ (s : State) (r : SnoopResp) (giver requester : Agent),
    s.accept (.snoopResponse r giver requester) = .next (s.begin (.sys (.snoopResponse r giver requester)))) ∧
  ∀ (s t : State) (i : Input), s.accept i = .next t →
    (t.now = s.now ∧ t.turn = s.turn ∧ t.moments = s.moments) ∨ (t.turn = t.listening ∧ t.moments = s.moments + 1)

/-- Rules R12, R14, R104 and R554: a row that counts cycles counts only at the cycles of its clock, UNNAMED_CYCLE_CLOCK
where its row names none (D8); a row that counts occurrences counts at no cycle, RS_UOPS_DISPATCHED apart, whose
micro-ops are dispatched in cycles, those in which the rows of the ports count. Dispatch: log entry 28. That a row of
core cycles counts at the cycles of the counter's own core, under BOTH_CORE too, is the model's reading (log entry 21).
-/
def Obligations.RowsCountAtTheirClock : Prop :=
  (∀ (i : Instr) (s : State) (c : CounterId) (rest : List CounterId) (t : Tick), s.turn = c :: rest →
    countingTick i s (match c with | .gp x _ => x | .fixed x _ => x) = some t → s.now ≠ .tick t → exec i s = .next s) ∧
  (∀ (i : Instr) (s : State) (t : Tick), i.unit = .occurrences → i ≠ .rsUopsDispatched → s.now = .tick t →
    exec i s = .next s) ∧
  ∀ (s : State) (x : CoreId) (k : Nat) (rest : List CounterId), s.turn = .gp x k :: rest →
    s.now ≠ .tick (unnamedTick s x) → exec .rsUopsDispatched s = .next s

/-- Rules R12 and D9: a row that counts cycles, accumulations apart, gains at most 1 in a cycle, however many instances
of its condition hold; RS_UOPS_DISPATCHED gains at most 6 (rule R554). Dispatch: log entry 28. -/
def Obligations.CycleRowsGainAtMostOne : Prop :=
  ∀ (i : Instr) (s : State),
    (i.unit ≠ .occurrences → i.unit ≠ .accumulation → gain i s ≤ 1) ∧ (i = .rsUopsDispatched → gain i s ≤ 6)

/-! ## Relations between events, in nominal counts -/

/-- Rules R343, R345, R348, R353, R354, R362, R388 and R393: the sums of retired micro-ops, branches, SIMD instructions,
renamings and stalls. That the four branch outcomes add up (rule R348, "the source does not state the sum") and that the
two mispredicted ones do (rule R354) is the spec's own inference, marked [derived] there. That a micro-op has at most
one type of fusion, and an instruction at most one SIMD class: log entry 29. -/
def Obligations.RetiredCountsAddUp : Prop :=
  ∀ s : State,
    gain .uopsRetiredFused s = gain .uopsRetiredLdIndBr s + gain .uopsRetiredStdSta s + gain .uopsRetiredMacroFusion s ∧
    gain .uopsRetiredAny s = gain .uopsRetiredFused s + gain .uopsRetiredNonFused s ∧
    gain .brInstRetiredAny s = gain .brInstRetiredPredNotTaken s + gain .brInstRetiredMispredNotTaken s +
      gain .brInstRetiredPredTaken s + gain .brInstRetiredMispredTaken s ∧
    gain .brInstRetiredTaken s = gain .brInstRetiredPredTaken s + gain .brInstRetiredMispredTaken s ∧
    gain .brInstRetiredMispred s = gain .brInstRetiredMispredNotTaken s + gain .brInstRetiredMispredTaken s ∧
    gain .simdInstRetiredAny s = gain .simdInstRetiredPackedSingle s + gain .simdInstRetiredScalarSingle s +
      gain .simdInstRetiredPackedDouble s + gain .simdInstRetiredScalarDouble s + gain .simdInstRetiredVector s ∧
    gain .segRenameStallsAny s = gain .segRenameStallsEs s + gain .segRenameStallsDs s + gain .segRenameStallsFs s +
      gain .segRenameStallsGs s ∧
    gain .segRegRenamesAny s = gain .segRegRenamesEs s + gain .segRegRenamesDs s + gain .segRegRenamesFs s +
      gain .segRegRenamesGs s

/-- Rules R255 and R282: L1D_ALL_CACHE_REF is the sum of L1D_CACHE_LD, L1D_CACHE_ST and L1D_CACHE_LOCK with all four
line states selected (log entry 16: the sum is followed where the row's own words are wider); BUS_TRANS_MEM is the sum
of BUS_TRANS_BURST, BUS_TRANS_P and BUS_TRANS_INVALID under one unit mask, and BUS_TRANS_ANY is at least that. -/
def Obligations.QualifiedCountsAddUp : Prop :=
  (∀ (s : State) (u : Byte) (q : Settings), decodeSettings s.params [.mesi] u = some q → q.mesi = .all →
    gain .l1dAllCacheRef s = gain (.l1dCacheLd u) s + gain (.l1dCacheSt u) s + gain (.l1dCacheLock u) s) ∧
  (∀ (s : State) (u : Byte),
    gain (.busTransMem u) s = gain (.busTransBurst u) s + gain (.busTransP u) s + gain (.busTransInvalid u) s ∧
    gain (.busTransMem u) s ≤ gain (.busTransAny u) s)

/-- Rules R226, R249, R296, R313, R315, R337, R356, R383, R399, R401 and R554: further relations: ITLB misses by page
size, dispatched micro-ops by port, instructions with neither load nor store, conditions that imply others, the two
bubble events, which together count each penalty once, and the stalls of any cause, which are at least those of each and
at most their sum. Dispatch, bogus branches (the spec's own inference in rule R401), and the stalls of FPSW writes,
which are cycles that run off after the writes: log entries 27, 28 and 36. -/
def Obligations.RelatedCountsAgree : Prop :=
  ∀ s : State,
    ((s.params.smallPage ≠ s.params.largePage →
      gain .itlbMisses s = gain .itlbSmallMiss s + gain .itlbLargeMiss s) ∧
    gain .rsUopsDispatched s = gain .rsUopsDispatchedPort0 s + gain .rsUopsDispatchedPort1 s +
      gain .rsUopsDispatchedPort2 s + gain .rsUopsDispatchedPort3 s + gain .rsUopsDispatchedPort4 s +
      gain .rsUopsDispatchedPort5 s ∧
    gain .instRetiredAnyP s ≤ gain .instRetiredLoads s + gain .instRetiredStores s + gain .instRetiredOther s ∧
    gain .cyclesIntPendingAndMasked s ≤ gain .cyclesIntMasked s ∧
    gain .idleDuringDiv s ≤ gain .cyclesDivBusy s ∧
    gain .cpuClkUnhaltedNoOther s ≤ gain .cpuClkUnhaltedBus s ∧
    gain .bogusBr s ≤ gain .baclears s) ∧
    (∀ (x : CoreId) (k : Nat) (rest : List CounterId), s.turn = .gp x k :: rest → s.hasCounter (.gp x k) = true →
      (s.now = .occ x .takenBubble → gain .brTknBubble1 s + gain .brTknBubble2 s = 1) ∧
      gain .ratStallsRobReadPort s ≤ gain .ratStallsAny s ∧ gain .ratStallsPartialCycles s ≤ gain .ratStallsAny s ∧
      gain .ratStallsFlags s ≤ gain .ratStallsAny s ∧
      (atCycle s x s.now → (s.core x).fpswStalling = true → gain .ratStallsAny s = 1) ∧
      gain .ratStallsAny s ≤ gain .ratStallsRobReadPort s + gain .ratStallsPartialCycles s + gain .ratStallsFlags s +
        (s.core x).fpswStalling.toNat) ∧
    (gain .resourceStallsRobFull s ≤ gain .resourceStallsAny s ∧ gain .resourceStallsRsFull s ≤ gain .resourceStallsAny s ∧
    gain .resourceStallsLdSt s ≤ gain .resourceStallsAny s ∧ gain .resourceStallsFpcw s ≤ gain .resourceStallsAny s ∧
    gain .resourceStallsBrMissClear s ≤ gain .resourceStallsAny s ∧
    gain .resourceStallsAny s ≤ gain .resourceStallsRobFull s + gain .resourceStallsRsFull s +
      gain .resourceStallsLdSt s + gain .resourceStallsFpcw s + gain .resourceStallsBrMissClear s)

/-! ## The state that event conditions read -/

/-- Rule R16: what the six kinds of qualifier setting select: cores, bus agents, prefetches, any subset of the line
states (I_STATE and all four among them), snoop responses and snoop types; and what the core and the agent setting
together select of a bus occurrence, where that is determined: of another agent, SELF with ALL_AGENTS leaves it open
(log entry 5). That SELF leaves out what this processor does for no core is read from "true only of the core whose
counter is counting": log entry 50. -/
def Obligations.QualifierSettingsSelect : Prop :=
  ∀ (q : Settings) (x y : CoreId) (st : LineState) (hw : Bool) (n : Nat),
    ((q.core = .self → (q.coreSel x y = true ↔ y = x)) ∧ (q.core = .bothCore → q.coreSel x y = true) ∧
    (q.agent = .thisAgent → q.agentSel .thisProcessor = true ∧ q.agentSel (.another n) = false) ∧
    (q.agent = .allAgents → q.agentSel .thisProcessor = true ∧ q.agentSel (.another n) = true) ∧
    (q.prefetch = .demand → (q.pfSel hw = true ↔ hw = false)) ∧
    (q.prefetch = .hwPrefetch → q.pfSel hw = hw) ∧ (q.prefetch = .both → q.pfSel hw = true)) ∧
    ((q.mesi = .iState → (q.mesiSel st = true ↔ st = .i)) ∧ (q.mesi = .all → q.mesiSel st = true) ∧
    q.mesiSel .m = q.mesi.m ∧ q.mesiSel .e = q.mesi.e ∧ q.mesiSel .s = q.mesi.s ∧ q.mesiSel .i = q.mesi.i) ∧
    ((∀ r, q.snoopRespSel r = true ↔ r ∈ q.snoopResp) ∧ (∀ k, q.snoopTypeSel k = true ↔ k ∈ q.snoopType)) ∧
    ∀ (s : State) (a : Agent) (c : Option CoreId),
      (q.core = .self → (s.busSel q x .thisProcessor (some y) = true ↔ y = x) ∧
        s.busSel q x .thisProcessor none = false) ∧
      (q.core = .bothCore → (s.busSel q x a c = true ↔ q.agentSel a = true)) ∧
      (q.agent = .thisAgent → s.busSel q x (.another n) c = false)

/-- Rules R14, R28, R32 and R564: HLT and MWAIT put one core, and only that core, into the halt state, a wake takes it
out; a core cycle, halted or not, is a moment that is served to every counter that is counting; every bus cycle brings
BUS_TO_REF_RATIO reference cycles, a number of at least 1 that need not be whole (log entry 11), each of them advances
the time stamp counter by one, and nothing else does. That the time stamp counter runs while the core is halted is the
spec's own inference in rule R32 ("the source does not say the time stamp counter runs while halted"); that there is one
of it for the package is the model's choice: log entry 40. The halt state: log entry 38; that it keeps all other state
is the model's choice: log entry 67. -/
def Obligations.ClocksAndHaltState : Prop :=
  (∀ (s : State) (x : CoreId) (m : Bool), s.hasCore x = true →
    s.accept (.halt x m) = .next (s.setCore x { s.core x with halted := true }) ∧
    s.accept (.wake x) = .next (s.setCore x { s.core x with halted := false }) ∧
    ∃ t, s.accept (.tick (.core x)) = .next t ∧ t.now = .tick (.core x) ∧ t.turn = s.listening) ∧
  (∀ s : State, ∃ t r, s.accept (.tick .bus) = .next t ∧ s.accept (.tick .ref) = .next r ∧ t.now = .tick .bus ∧
    (∃ later, t.queue =
      List.replicate ((s.refCredit + s.params.refCycles) / s.params.busCycles) (Input.tick .ref) ++ later) ∧
    (s.params.busCycles ≤ s.refCredit → r.now = .tick .ref ∧ r.tsc = s.tsc + 1) ∧
    (s.refCredit < s.params.busCycles → r = s)) ∧
  ∀ (s t : State) (i : Input), s.accept i = .next t →
    t.tsc * s.params.busCycles + t.refCredit =
      s.tsc * s.params.busCycles + s.refCredit + (if i = .tick .bus then s.params.refCycles else 0) ∧
    (i ≠ .tick .ref → t.tsc = s.tsc)

/-- Rules R29 to R31, R245 and R246: a thermal trip occurs when the temperature exceeds the threshold of a processor
that has not tripped, and reduces the frequency and the voltage of its cores; at a check made below the threshold, not
before, a tripped processor returns to normal, and so do they; a transition sets the frequency, the voltage and the C
state it changes, and is counted only when the core was in C0, and then if it is a TM2 transition, changes the
frequency, or goes to a higher-numbered C state (log entry 15). To what they are reduced is a free value; that a
transition, of whichever kind, changes what a tripped processor returns to is the model's choice: log entry 23. That
each core has a frequency and a voltage of its own: log entry 15; that a transition keeps all other state of its core,
the other core and the L2 cache is the model's choice: log entry 67. -/
def Obligations.ThermalTripsAndTransitions : Prop :=
  (∀ (s : State) (n : Nat), ∃ t c, s.accept (.temperature n) = .next t ∧ s.accept .millisecond = .next c ∧
    t.thermal.temperature = n ∧
    (s.thermal.tripped = false → s.params.tripThreshold < n → t.thermal.tripped = true ∧
      t.now = .sys .thermalTrip ∧ t.turn = s.listening ∧
      ∀ x, (t.core x).normalFrequency = (s.core x).frequency ∧ (t.core x).normalVoltage = (s.core x).voltage ∧
        (0 < (s.core x).frequency → (t.core x).frequency < (s.core x).frequency) ∧
        (0 < (s.core x).voltage → (t.core x).voltage < (s.core x).voltage)) ∧
    ((s.thermal.tripped = true ∨ n ≤ s.params.tripThreshold) →
      t = { s with thermal := { s.thermal with temperature := n } }) ∧
    c.thermal.temperature = s.thermal.temperature ∧
    (s.thermal.tripped = true → s.thermal.temperature < s.params.tripThreshold → c.thermal.tripped = false ∧
      ∀ x, (c.core x).frequency = (s.core x).normalFrequency ∧ (c.core x).voltage = (s.core x).normalVoltage) ∧
    ((s.thermal.tripped = false ∨ s.params.tripThreshold ≤ s.thermal.temperature) → c = s)) ∧
  (∀ (s : State) (x : CoreId) (k : TransitionKind) (f v : Option Nat), s.hasCore x = true →
    ∃ t b, s.accept (.transition x ⟨k, f, v⟩) = .next t ∧ t.now = .found x (.transition b) ∧
      (t.core x).frequency = f.getD (s.core x).frequency ∧ (t.core x).voltage = v.getD (s.core x).voltage ∧
      (t.core x).normalFrequency = f.getD (s.core x).normalFrequency ∧
      (t.core x).normalVoltage = v.getD (s.core x).normalVoltage ∧
      (∀ n, k = .cState n → (t.core x).cState = n) ∧
      ((∀ n, k ≠ .cState n) → (t.core x).cState = (s.core x).cState) ∧
      t.core x = { s.core x with
        frequency := (t.core x).frequency, voltage := (t.core x).voltage
        normalFrequency := (t.core x).normalFrequency, normalVoltage := (t.core x).normalVoltage
        cState := (t.core x).cState } ∧
      (∀ y, y ≠ x → t.core y = s.core y) ∧ t.l2 = s.l2 ∧
      (b = true ↔ (s.core x).cState = 0 ∧
        (k = .tm2 ∨ (k = .eist ∧ f ≠ none) ∨ ∃ n, k = .cState n ∧ 0 < n)))

/-- Rules R41, R79, R80, R233, R235, R265 and R285: a cache line reads as the state it was last put into and every other
line as before, the list staying canonical; a request finds its line in the state the cache holds it in, and the L2
cache learns with it whether the L1 data cache of its core misses the line; a line brought in or evicted changes that
line only; a modified line evicted from the L1 data cache is written back to the L2 cache next, and is modified there; a
modified line evicted from the L2 cache is written back to memory, an explicit writeback on the bus, unless it is
modified in the L1 data cache of a core; one that becomes invalid there without being evicted, by a snoop request, is
written back too, an implicit writeback; a snoop for the other core uses the store port, takes a line from E to S on a
read, from E or S to I on a read for ownership, leaves one in M to a later opportunity, and leaves every other line. A
load whose bytes all lie in the line of a software prefetch hits it between its start and its end; of one that touches
another line too the source does not say (log entry 5). The end brings the line where rule R80 says. A line that
otherwise gets another state without being brought in or evicted is put into that state and counted by no event, and so
is a line of the L2 cache and of the L1 instruction cache, the model's choice (log entries 12 and 35). The source says
"typically" of E and S: an input may name another state, and a line in M that later becomes invalid is evicted (log
entry 12); write-backs, the core a writeback is for, and fills: log entries 46 and 47; what holds a load that is sent:
log entry 44. -/
def Obligations.LineStatesAndSnoops : Prop :=
  (∀ (m : LineMap) (n : Nat) (st : LineState), linesWf m = true →
    linesWf (setLine m n st) = true ∧ lineState (setLine m n st) n = st ∧
      ∀ k, k ≠ n → lineState (setLine m n st) k = lineState m k) ∧
  (∀ (s : State) (x : CoreId) (line : Nat) (k : SnoopKind) (after : Option LineState), s.hasCore x = true →
    linesWf (s.core x).l1d = true →
    ∃ t, s.accept (.coreSnoop x line k after) = .next t ∧ t.now = .found x (.coreSnoop k) ∧
      (t.core x).portSnoops = (s.core x).portSnoops + 1 ∧
      (∀ n, n ≠ line → lineState (t.core x).l1d n = lineState (s.core x).l1d n) ∧
      (lineState (s.core x).l1d line = .m → lineState (t.core x).l1d line = .m) ∧
      (∀ st, after = some st → lineState (s.core x).l1d line ≠ .m → lineState (t.core x).l1d line = st) ∧
      (after = none →
        (lineState (s.core x).l1d line = .e → k = .read → lineState (t.core x).l1d line = .s) ∧
        (lineState (s.core x).l1d line ∈ [.e, .s] → k = .readForOwnership → lineState (t.core x).l1d line = .i) ∧
        (lineState (s.core x).l1d line = .s → k = .read → lineState (t.core x).l1d line = .s) ∧
        (lineState (s.core x).l1d line = .i → lineState (t.core x).l1d line = .i))) ∧
  (∀ (s : State) (x : CoreId) (a : DataRef) (r : L2Req) (line : Nat) (st : LineState) (hw : Bool),
    s.hasCore x = true →
    (∃ t u, s.accept (.retiredRef x a) = .next t ∧ t.core x = s.core x ∧
      ((s.core x).holdsLoad a = false →
        t.now = .found x (.dataRef a (lineState (s.core x).l1d (a.bytes.addr / s.params.lineBytes))
          (lineState (s.core x).l1d ((a.bytes.addr + a.bytes.size - 1) / s.params.lineBytes)))) ∧
      s.accept (.l2Request x r) = .next u ∧ u.l2 = s.l2 ∧ (∀ y, u.core y = s.core y) ∧
      u.now = .found x (.l2Request r (decide (lineState (s.core x).l1d r.line = .i)) (lineState s.l2 r.line))) ∧
    (∃ t u, s.accept (.l1dLineIn x line st) = .next t ∧ (t.core x).l1d = setLine (s.core x).l1d line st ∧
      (t.now = .found x (.l1dLineIn true) ↔ st = .m) ∧ (t.now = .found x (.l1dLineIn false) ↔ st ≠ .m) ∧
      s.accept (.l2LineIn x line st hw) = .next u ∧ u.l2 = setLine s.l2 line st ∧ u.now = .found x (.l2LineIn hw)) ∧
    (∃ t w, s.accept (.l1dLineOut x line) = .next t ∧ (t.core x).l1d = setLine (s.core x).l1d line .i ∧
      (lineState (s.core x).l1d line = .m → t.now = .found x (.l1dLineOut true) ∧
        t.queue = .writeBackToL2 x line :: s.queue) ∧
      (lineState (s.core x).l1d line ≠ .m → t.now = .found x (.l1dLineOut false) ∧ t.queue = s.queue) ∧
      s.accept (.writeBackToL2 x line) = .next w ∧ w.now = .found x .modifiedLineToL2 ∧
      w.l2 = setLine s.l2 line .m) ∧
    ((lineState (s.core x).l1d line = .m → st = .i →
        s.accept (.l1dLineState x line st) = s.accept (.l1dLineOut x line)) ∧
      (lineState (s.core x).l1d line ≠ .m ∨ st ≠ .i → s.accept (.l1dLineState x line st) =
        .next (s.setCore x { s.core x with l1d := setLine (s.core x).l1d line st })) ∧
      (lineState s.l2 line ≠ .m ∨ st ≠ .i →
        s.accept (.l2LineState line st) = .next { s with l2 := setLine s.l2 line st }) ∧
      (lineState s.l2 line = .m → st = .i → ∃ b, b.kind = .implicitWriteback ∧ b.agent = .thisProcessor ∧
        b.core = none ∧ b.completed = true ∧ s.accept (.l2LineState line st) =
          .next { s with l2 := setLine s.l2 line .i, queue := .busTrans b :: s.queue }) ∧
      s.accept (.l1iLineState x line st) =
        .next (s.setCore x { s.core x with l1i := setLine (s.core x).l1i line st })) ∧
    (∃ t, s.accept (.l2LineOut x line hw) = .next t ∧ t.l2 = setLine s.l2 line .i ∧
      (lineState s.l2 line = .m → t.now = .found x (.l2LineOut hw true)) ∧
      (lineState s.l2 line ≠ .m → t.now = .found x (.l2LineOut hw false)) ∧
      (lineState s.l2 line = .m → (∀ y, s.hasCore y = true → lineState (s.core y).l1d line ≠ .m) →
        ∃ b, t.queue = .busTrans b :: s.queue ∧ b.kind = .explicitWriteback ∧ b.agent = .thisProcessor ∧
          b.core = some x) ∧
      ((lineState s.l2 line ≠ .m ∨ ∃ y, s.hasCore y = true ∧ lineState (s.core y).l1d line = .m) →
        t.queue = s.queue))) ∧
  (∀ (s : State) (x : CoreId) (k : SsePrefetch) (a b : Nat) (d : Direction) (st : LineState), s.hasCore x = true →
    ∃ t v, s.accept (.prefetchStart x k a) = .next t ∧
      (∀ l : Access, ∃ u, t.accept (.loadSent x l) = .next u ∧
        let first := l.addr / s.params.lineBytes
        let last := (l.addr + l.size - 1) / s.params.lineBytes
        ((s.core x).draining = none → a / s.params.lineBytes = first → a / s.params.lineBytes = last →
          u.now = .found x (.loadSent true)) ∧
        ((s.core x).draining = none → (s.core x).prefetching = [] → a / s.params.lineBytes ≠ first →
          a / s.params.lineBytes ≠ last → u.now = .found x (.loadSent false)) ∧
        ((s.core x).draining ≠ none → u = t)) ∧
      (s.core x).prefetching ⊆ (t.core x).prefetching ∧
      t.accept (.prefetchEnd x k a st) = .next v ∧ (v.core x).prefetching = (s.core x).prefetching ∧
      (∀ i, i ∈ v.queue ↔ i ∈ s.queue ∨
        (k ∈ [.nta, .t0] ∧ lineState (s.core x).l1d (a / s.params.lineBytes) = .i ∧
          i = .l1dLineIn x (a / s.params.lineBytes) st) ∨
        (k ∈ [.t0, .t1, .t2] ∧ lineState s.l2 (a / s.params.lineBytes) = .i ∧
          i = .l2LineIn x (a / s.params.lineBytes) st false)) ∧
      ∃ w, s.accept (.dplPrefetch x d b st) = .next w ∧ w.now = .found x (.dplPrefetch d) ∧
        (lineState s.l2 b = .i → w.queue = .l2LineIn x b st true :: s.queue) ∧
        (lineState s.l2 b ≠ .i → w.queue = s.queue))

/-- Rules R33, R69, R363, R504 and R505: interrupts of a core are disabled and enabled, and nothing else changes with
that; an interrupt received is pending on its core whether or not interrupts are disabled, its acknowledgment drains the
store buffer, and one is taken only while one is pending and interrupts are enabled. How they pend, that the
acknowledgment goes with the reception, and that no interrupt is exempt from being disabled is the model's reading (log
entry 22). -/
def Obligations.InterruptsPendWhileDisabled : Prop :=
  ∀ (s : State) (x : CoreId), s.hasCore x = true →
    (∃ t, s.accept (.interrupt x) = .next t ∧ (t.core x).intPending = (s.core x).intPending + 1 ∧
      ((s.core x).storeBuffer ≠ [] → (t.core x).draining = some .interruptAcknowledgment) ∧
      ((s.core x).storeBuffer = [] → (t.core x).draining = (s.core x).draining) ∧
      t.now = .found x .interruptReceived) ∧
    (∀ b : Bool, s.accept (.disableInterrupts x b) = .next (s.setCore x { s.core x with intDisabled := b })) ∧
    ∃ t, s.accept (.takeInterrupt x) = .next t ∧
      ((s.core x).intDisabled = true ∨ (s.core x).intPending = 0 → t = s) ∧
      ((s.core x).intDisabled = false → (t.core x).intPending = (s.core x).intPending - 1)

/-- Rules R37, R208, R384 and R389: a segment register load operation is one occurrence whether or not it retires, and
one that retires, and no other, gives the register its new value; an update of a segment register renames it, one
occurrence; a second update before the renamed one retires stalls, one occurrence, and changes no register; retirement
frees it. Which instructions cause a rename the source does not say: that an update does and a load operation by itself
does not, nor drains the store buffer, one copy at a time, that the value is the load's, and that the stall holds back
the update alone is the model's reading (log entry 24). -/
def Obligations.SegmentRenamesStall : Prop :=
  ∀ (s : State) (x : CoreId) (r : SegReg), s.hasCore x = true →
    ∃ t f, s.accept (.segmentUpdate x r) = .next t ∧ s.accept (.segmentRetire x r) = .next f ∧
      (((s.core x).segment r).renamed = false →
        t.now = .found x (.segmentRenamed r) ∧ ((t.core x).segment r).renamed = true ∧
        ((t.core x).segment r).value = ((s.core x).segment r).value) ∧
      (((s.core x).segment r).renamed = true → t.now = .found x (.segmentStalled r) ∧ t.core x = s.core x) ∧
      ((f.core x).segment r).renamed = false ∧
      (∀ r', r' ≠ r → (t.core x).segment r' = (s.core x).segment r' ∧ (f.core x).segment r' = (s.core x).segment r') ∧
      ∀ (v : Nat) (retires : Bool), ∃ l, s.accept (.segmentLoad x r v retires) = .next l ∧
        l.now = .found x .segmentLoad ∧
        (retires = true → (l.core x).segment r = { (s.core x).segment r with value := v } ∧
          ∀ r', r' ≠ r → (l.core x).segment r' = (s.core x).segment r') ∧
        (retires = false → l.core x = s.core x) ∧ (l.core x).draining = (s.core x).draining

/-- Rules R38, R324, R325 and R374 to R376: the first explicit use of ESP after an implicit one is a synchronisation,
the next is not; a floating-point instruction after an MMX instruction, and the reverse, is a transition, the next of
its kind is not; EMMS is one SIMD assist and changes the MMX state. That an MMX instruction sets the MMX state and EMMS
clears it is the model's choice: log entry 14. -/
def Obligations.FirstUseAfterTheOtherKindCounts : Prop :=
  ∀ (s : State) (x : CoreId) (add : Bool), s.hasCore x = true →
    (∃ t u, s.accept (.espImplicit x add) = .next t ∧ t.now = .found x (.espImplicit add) ∧
      t.accept (.espExplicit x) = .next u ∧ u.now = .found x .espSynch ∧ u.accept (.espExplicit x) = .next u) ∧
    (∃ t u v, s.accept (.mmxInst x) = .next t ∧ t.accept (.fpInst x) = .next u ∧ u.accept (.fpInst x) = .next v ∧
      u.now = .found x (.fpInst true) ∧ v.now = .found x (.fpInst false)) ∧
    (∃ t u v, s.accept (.fpInst x) = .next t ∧ t.accept (.mmxInst x) = .next u ∧ u.accept (.mmxInst x) = .next v ∧
      u.now = .found x (.mmxInst true) ∧ v.now = .found x (.mmxInst false) ∧ (u.core x).regs.mmxState = true) ∧
    ∃ t, s.accept (.emms x) = .next t ∧ t.now = .found x .simdAssist ∧
      t.core x = { s.core x with regs := { (s.core x).regs with mmxState := false } }

/-- Rules R40, R81, R243, R268, R289, R290, R505 and R560: an assertion of BNR and one of the snoop stall stand for two
bus cycles each; while BNR lasts no transaction is submitted, during a snoop stall none that needs a snoop response; one
that cannot be submitted is held back, and each bus cycle submits next those that then can be (log entry 13). An
interrupt transaction brings its interrupt to the core it is for, whose reception comes next: rule R505 says that
interrupts reach the processor over the bus, the rest is the model's reading (log entry 22). A request for a line moves
to the bus queue, unless that is full or holds an entry for a line of the same set, which delays it, one occurrence, as
any other delay on the way there is; an IO request moves there unless it is full (log entry 45). -/
def Obligations.HeldBackTransactions : Prop :=
  (∀ (s : State) (a : Agent) (y : Option CoreId) (b : BusTrans),
    (∃ t, s.accept (.bnr a) = .next t ∧ t.bnrLeft = s.bnrLeft + 2 ∧ t.now = .sys (.bnr a) ∧ t.canSubmit b = false) ∧
    (∃ t, s.accept (.snoopStall a y) = .next t ∧ t.snoopStallLeft = s.snoopStallLeft + 2 ∧
      t.now = .sys (.snoopStall a y) ∧ (b.needsSnoop = true → t.canSubmit b = false) ∧
      (b.needsSnoop = false → t.canSubmit b = s.canSubmit b)) ∧
    (∃ t, s.accept (.busTrans b) = .next t ∧
      ((s.bnrLeft = 0 ∧ (b.needsSnoop = true → s.snoopStallLeft = 0)) → t.now = .sys (.busTrans b) ∧
        t.heldBack = s.heldBack ∧
        (∀ x, b.kind = .interrupt (some x) → s.hasCore x = true → t.queue = .interrupt x :: s.queue) ∧
        ((∀ x, b.kind = .interrupt (some x) → s.hasCore x = false) → t.queue = s.queue)) ∧
      (¬(s.bnrLeft = 0 ∧ (b.needsSnoop = true → s.snoopStallLeft = 0)) →
        t = { s with heldBack := s.heldBack ++ [b] })) ∧
    (∃ t n, s.accept (.tick .bus) = .next t ∧ t.bnrLeft = s.bnrLeft - 1 ∧ t.snoopStallLeft = s.snoopStallLeft - 1 ∧
      t.now = .tick .bus ∧ t.heldBack = s.heldBack.filter (fun c => !t.canSubmit c) ∧
      t.queue = List.replicate n (Input.tick .ref) ++ (s.heldBack.filter t.canSubmit).map Input.busTrans ++ s.queue)) ∧
  (∀ (s : State) (x : CoreId) (r : L2Req) (n : Nat) (e : QueueEntry), s.hasCore x = true →
    ∃ t u v, s.accept (.busRequest x r n) = .next t ∧ s.accept (.ioRequest x) = .next u ∧
      s.accept (.dequeue x e) = .next v ∧
      s.accept (.l2Reject x r) = .next (s.begin (.found x (.l2Reject r (lineState s.l2 r.line)))) ∧
      (((s.core x).pipe.busQueueFull = false ∧ .line n ∉ (s.core x).busQueue) →
        t = s.setCore x { s.core x with busQueue := (s.core x).busQueue ++ [.line n] }) ∧
      (((s.core x).pipe.busQueueFull = true ∨ .line n ∈ (s.core x).busQueue) →
        t.core x = s.core x ∧ t.now = .found x (.l2Reject r (lineState s.l2 r.line))) ∧
      ((s.core x).pipe.busQueueFull = false →
        u = s.setCore x { s.core x with busQueue := (s.core x).busQueue ++ [.io] }) ∧
      ((s.core x).pipe.busQueueFull = true → u = s) ∧
      v = s.setCore x { s.core x with busQueue := (s.core x).busQueue.erase e })

/-- Rules R68, R69, R77, R219, R220 and R563: locking happens at retirement, which waits while the store buffer drains
or a store blocks the access (`Core.canRetire`; log entry 44): of all the instructions that a micro-op completes, each
locked access to uncacheable memory and each that spans two cache lines asserts the LOCK signal until it ends, each
other locks its cache line until it ends, and where there is none the signal and the locked lines stay as they were; a
page walk from an uncacheable page table asserts LOCK from its start to its end, and any page walk is in progress from
its start, one occurrence, to its end. The signal stays asserted while another access, of whichever core, still asserts
it. Of other memory types the rule says nothing: log entry 25. That a page walk is counted when it starts is the model's
choice: log entry 66. -/
def Obligations.LockedAccessesLock : Prop :=
  ∀ (s : State) (x : CoreId), s.hasCore x = true →
    (let onBus := fun a : DataRef => decide (a.memType = .uncacheable) || a.bytes.split s.params
    (∀ u : RetiredUop, ∃ t, s.accept (.retire x u) = .next t ∧
      (let locks := u.completes.flatMap fun r => r.locks
      (¬(s.core x).canRetire u → t = s) ∧
      ((s.core x).draining ≠ none → locks ≠ [] → ¬(s.core x).canRetire u) ∧
      ((s.core x).canRetire u →
        t.bus = { s.bus with
          lock := List.replicate (locks.filter onBus).length (.thisProcessor, some x) ++ s.bus.lock } ∧
        (t.core x).lockedLines =
          (locks.filter fun a => !onBus a).map (fun a => a.bytes.addr / s.params.lineBytes) ++
            (s.core x).lockedLines))) ∧
    ∀ a : DataRef, ∃ e, s.accept (.lockEnd x a) = .next e ∧
      (onBus a = true → e = { s with bus := { s.bus with lock := s.bus.lock.erase (.thisProcessor, some x) } }) ∧
      (onBus a = false → e = s.setCore x { s.core x with
        lockedLines := (s.core x).lockedLines.erase (a.bytes.addr / s.params.lineBytes) })) ∧
    ∀ uncacheable : Bool, ∃ t e, s.accept (.pageWalkStart x uncacheable) = .next t ∧
      s.accept (.pageWalkEnd x uncacheable) = .next e ∧ t.now = .found x .pageWalk ∧
      (t.core x).pageWalks = (s.core x).pageWalks + 1 ∧ (e.core x).pageWalks = (s.core x).pageWalks - 1 ∧
      (uncacheable = true → t.bus = { s.bus with lock := (.thisProcessor, some x) :: s.bus.lock } ∧
        e.bus = { s.bus with lock := s.bus.lock.erase (.thisProcessor, some x) }) ∧
      (uncacheable = false → t.bus = s.bus ∧ e.bus = s.bus)

/-- Rules R67 and R202: the five cases in which a load is blocked by an overlapping store; 4-KByte aliasing is the same
offset in different 4-KByte pages. A load that begins where the store begins is aligned to it; of any other load of one
or two bytes the source does not say when it is (log entry 17, a free value). A load so blocked stays blocked "until
after the blocking store retires and the stored data is committed": no input ends the block but the commit of that store
out of the store buffer, or what throws the load away; a store comes into the store buffer only from the stores that
have retired, and becomes one of these only by the retirement of its instruction (log entry 44). -/
def Obligations.OverlapCases : Prop :=
  (∀ (s t : State) (i : Input) (x : CoreId), s.accept i = .next t →
    (∀ l st, (l, st) ∈ (s.core x).blocked.untilCommit → (l, st) ∉ (t.core x).blocked.untilCommit →
      (i = .storeCommit x ∧ (s.core x).storeBuffer.head? = some st) ∨
      ∃ n k loads, (i = .abandon x n k loads ∨ ∃ cause, i = .nuke x cause n k loads) ∧ ∃ a ∈ loads, a.bytes = l) ∧
    (∀ st ∈ (t.core x).storeBuffer, st ∈ (s.core x).storeBuffer ∨ st ∈ (s.core x).retiredStores) ∧
    ∀ st ∈ (t.core x).retiredStores, st ∈ (s.core x).retiredStores ∨
      ∃ u, i = .retire x u ∧ ∃ r ∈ u.completes, r.store = some st) ∧
  ∀ l s : Access, 0 < l.size → 0 < s.size → (l.addr = s.addr → l.alignedTo s = true) ∧ (overlapBlocks l s = true ↔
    ((∃ n, l.touches n = true ∧ s.touches n = true) ∧ (∃ n, l.touches n = true ∧ s.touches n = false)) ∨
    (l.within s = true ∧ s.aligned = true ∧
      (((l.size = 1 ∨ l.size = 2) ∧ l.alignedTo s = false) ∨ ((l.size = 4 ∨ l.size = 8) ∧ l.aligned = false))) ∨
    (l.within s = true ∧ s.aligned = false ∧ l.addr ≠ s.addr) ∨
    (l.addr / 8 ≠ (l.addr + l.size - 1) / 8 ∧ l.size ≠ 16) ∨
    (l.addr % 4096 = s.addr % 4096 ∧ l.addr / 4096 ≠ s.addr / 4096))

/-- Rules R76, R213 to R216 and R293: a load looks up DTLB0 and, where it misses that, DTLB1; a store looks up DTLB1
only; an access that is neither is taken to look up both. An instruction fetch looks up its page in the ITLB; while the
instruction queue is full nothing is fetched (rule R297; log entry 52). Lookups fill nothing: cores stay as they are
(log entry 34). -/
def Obligations.DtlbLookups : Prop :=
  (∀ (s : State) (x : CoreId) (page : Nat), s.hasCore x = true →
    ∃ t u v, s.accept (.dataAccess x .load page) = .next t ∧ s.accept (.dataAccess x .store page) = .next u ∧
      s.accept (.dataAccess x .unlisted page) = .next v ∧
      (page ∈ (s.core x).tlb.dtlb0 → t.now = .found x (.dtlbLookup .load false false)) ∧
      (page ∉ (s.core x).tlb.dtlb0 → page ∈ (s.core x).tlb.dtlb1 → t.now = .found x (.dtlbLookup .load true false)) ∧
      (page ∉ (s.core x).tlb.dtlb0 → page ∉ (s.core x).tlb.dtlb1 → t.now = .found x (.dtlbLookup .load true true)) ∧
      (page ∈ (s.core x).tlb.dtlb1 → u.now = .found x (.dtlbLookup .store false false)) ∧
      (page ∉ (s.core x).tlb.dtlb1 → u.now = .found x (.dtlbLookup .store false true)) ∧
      (page ∈ (s.core x).tlb.dtlb0 ∨ page ∈ (s.core x).tlb.dtlb1 →
        v.now = .found x (.dtlbLookup .unlisted false false)) ∧
      (page ∉ (s.core x).tlb.dtlb0 → page ∉ (s.core x).tlb.dtlb1 →
        v.now = .found x (.dtlbLookup .unlisted false true)) ∧
      ∀ y, t.core y = s.core y ∧ u.core y = s.core y ∧ v.core y = s.core y) ∧
  ∀ (s : State) (x : CoreId) (f : Fetch), s.hasCore x = true →
    ∃ t, s.accept (.fetch x f) = .next t ∧ (∀ y, t.core y = s.core y) ∧
      ((s.core x).pipe.instQueueFull = true → t = s) ∧
      ((s.core x).pipe.instQueueFull = false →
        (f.page ∈ (s.core x).tlb.itlb → t.now = .found x (.fetch f false)) ∧
        (f.page ∉ (s.core x).tlb.itlb → t.now = .found x (.fetch f true)))

/-- Rules R38, R120, R222, R299, R507 and R551: the cases in which a floating point operation requires a micro-code
assist; that an operation is one occurrence, which is one that required an assist by the DAZ and FTZ flags of its core;
and those in which length decoding uses the slow decoder; for 6 cycles, or for 5 of them, the source does not say which
(log entry 5). Each cycle of the clock that ILD_STALL does not name takes one of them off, and is one in which the slow
decoder is used while any was left; the cycles for which snoops use the store port and those of FPSW stalls run off in
the same way; a cycle of another clock takes off none. Slow decodes add up, and an unnamed mode is not slow (log entry
26); snoops and FPSW stalls: log entries 36 and 46. -/
def Obligations.AssistAndSlowDecoderCases : Prop :=
  (∀ (daz ftz : Bool) (o : FpOp), assistRequired daz ftz o = true ↔
    (o.x87 = false ∧ (o.denormalInput = true ∧ daz = false ∨ o.underflow = true ∧ ftz = false)) ∨
    (o.x87 = true ∧ (o.nanOrDenormalLoaded = true ∨ o.divideByZero = true ∨ o.underflow = true))) ∧
  (∀ (s : State) (x : CoreId) (o : FpOp), s.hasCore x = true →
    ∃ t, s.accept (.fpOp x o) = .next t ∧
      t.now = .found x (.fpOp (assistRequired (s.core x).regs.daz (s.core x).regs.ftz o)) ∧ t.turn = s.listening ∧
      ∀ y, t.core y = s.core y) ∧
  (∀ (s : State) (x : CoreId) (d : LengthDecode), s.hasCore x = true →
    ∃ t, s.accept (.lengthDecode x d) = .next t ∧
      (((d.prefix66 = true ∧ d.immediate = true) ∨ (d.prefix67 = true ∧ d.modrm = true ∧
          (s.core x).regs.mode ∈ [.real, .bigReal, .protected16, .protected32])) →
        (t.core x).slowDecodeLeft = (s.core x).slowDecodeLeft + (if s.unstated .slowDecodeFive = true then 5 else 6)) ∧
      (¬((d.prefix66 = true ∧ d.immediate = true) ∨ (d.prefix67 = true ∧ d.modrm = true ∧
          (s.core x).regs.mode ∈ [.real, .bigReal, .protected16, .protected32])) → t = s)) ∧
  (∀ (s t : State) (x : CoreId) (k : Tick), s.accept (.tick k) = .next t →
    (k = unnamedTick s x → (k = .ref → s.params.busCycles ≤ s.refCredit) →
      t.core x = { s.core x with
        slowDecodeLeft := (s.core x).slowDecodeLeft - 1, slowDecoding := decide (0 < (s.core x).slowDecodeLeft)
        portSnoops := (s.core x).portSnoops - 1, portSnooping := decide (0 < (s.core x).portSnoops)
        fpswStallLeft := (s.core x).fpswStallLeft - 1, fpswStalling := decide (0 < (s.core x).fpswStallLeft) }) ∧
    (k ≠ unnamedTick s x → t.core x = s.core x))

/-- Rules R34 to R36, R38 to R40, R76, R78, R81, R295, R382 and R383: a write of CR0 or CR3 is kept and, where it
flushes the ITLB, empties it, one occurrence, and where it does not, leaves it; so does a flush from another cause,
which changes nothing else; a write of the FPU status word is kept, is one occurrence and stalls for two cycles; a
micro-op that retires with its instruction leaves the address of the one executed next. A write of the FPU control word
is kept and changes nothing else: that it does not itself start a stall is the model's choice, where rules R38 (b) and
R397 say that writing the word stalls execution and give the stall no length; the stall of such a write is the level
`Pipe.fpcwStall`, which the history sets by `setPipe` (log entry 9). The inputs that set the registers, the TLBs, the
levels of the structures, the predictors and the bus keep what they are given and change nothing else: that these are
inputs is the model's choice too (log entries 9 and 49). Log entries 29, 34 and 36; what cannot retire: log entries 43
and 44. -/
def Obligations.RegisterWritesAndFlush : Prop :=
  ∀ (s : State) (x : CoreId) (v : Nat), s.hasCore x = true →
    (∀ toCr3 flushes : Bool, ∃ t, s.accept (.controlWrite x toCr3 v flushes) = .next t ∧
      (toCr3 = true → (t.core x).regs = { (s.core x).regs with cr3 := v }) ∧
      (toCr3 = false → (t.core x).regs = { (s.core x).regs with cr0 := v }) ∧
      (flushes = true → (t.core x).tlb = { (s.core x).tlb with itlb := [] } ∧ t.now = .found x .itlbFlush) ∧
      (flushes = false → (t.core x).tlb = (s.core x).tlb ∧ t.now = s.now ∧ t.turn = s.turn)) ∧
    s.accept (.itlbFlush x) = .next ((s.setCore x { s.core x with tlb := { (s.core x).tlb with itlb := [] } }).begin
      (.found x .itlbFlush)) ∧
    (∃ t, s.accept (.fpswWrite x v) = .next t ∧ (t.core x).regs = { (s.core x).regs with fpsw := v } ∧
      (t.core x).fpswStallLeft = (s.core x).fpswStallLeft + 2 ∧ t.now = .found x .fpswWritten) ∧
    s.accept (.fpcwWrite x v) =
      .next (s.setCore x { s.core x with regs := { (s.core x).regs with fpcw := v } }) ∧
    (∀ (r : Regs) (t : Tlb) (p : Pipe) (q : Predictors) (b : Bus),
      s.accept (.setRegs x r) = .next (s.setCore x { s.core x with regs := r }) ∧
      s.accept (.setTlb x t) = .next (s.setCore x { s.core x with tlb := t }) ∧
      s.accept (.setPipe x p) = .next (s.setCore x { s.core x with pipe := p }) ∧
      s.accept (.setPredictors x q) = .next (s.setCore x { s.core x with predictors := q }) ∧
      s.accept (.setBus b) = .next { s with bus := b }) ∧
    ∀ (f : Option Fusion) (first : List RetiredInst) (last : RetiredInst), ∃ t u,
      s.accept (.retire x ⟨f, first ++ [last]⟩) = .next t ∧ s.accept (.retire x ⟨f, []⟩) = .next u ∧
      (u.core x).regs = (s.core x).regs ∧
      ((s.core x).canRetire ⟨f, first ++ [last]⟩ →
        (t.core x).regs = { (s.core x).regs with instAddr := last.next } ∧
        t.now = .found x (.retired ⟨f, first ++ [last]⟩))

/-- Rules R111, R146, R339, R354, R362, R369 to R373 and R510: for each of the eight precise events, under the name
Branch Misses Retired too, a sample is there exactly where the moment counts the event, so the operation caused it; the
address it contains is that of the instruction executed immediately after the operation that caused the event; no other
event has a sample, and an architectural name has the samples of the event it names. Where a micro-op completes two
instructions, the first that caused the event counts as the cause (log entry 18). -/
def Obligations.SampleHoldsTheNextAddress : Prop :=
  (∀ (i : Instr) (s : State) (x : CoreId) (k : Nat) (rest : List CounterId), i.precise = true →
    s.turn = .gp x k :: rest → s.hasCounter (.gp x k) = true →
      ((s.sampleAddress x i).isSome = true ↔ 0 < gain i s)) ∧
  (∀ (i : Instr) (s : State) (x : CoreId) (a : Nat), s.sampleAddress x i = some a →
    (∀ o, s.now = .occ x (.x87Retired o) → a = o.next) ∧ (∀ l, s.now = .occ x (.loadRetired l) → a = l.next)) ∧
  (∀ (s : State) (x : CoreId) (f : Option Fusion) (before after : List RetiredInst) (r : RetiredInst),
    s.now = .found x (.retired ⟨f, before ++ r :: after⟩) →
    ((∀ b ∈ before, b.branch.any (·.mispredicted) = false) → r.branch.any (·.mispredicted) = true →
      s.sampleAddress x .brInstRetiredMispred = some r.next ∧
      s.sampleAddress x .archBranchMissesRetired = some r.next) ∧
    ((∀ b ∈ before, b.simdClass = none) → r.simdClass ≠ none →
      s.sampleAddress x .simdInstRetiredAny = some r.next)) ∧
  ∀ (i : Instr) (s : State) (x : CoreId), i.precise = i.event.precise ∧
    s.sampleAddress x i = s.sampleAddress x i.event ∧ (i.precise = false → s.sampleAddress x i = none)

/-- Rules R16, R28, R61, R66, R204, R227, R228, R237, R238, R240, R244, R250 to R252, R259, R266, R267, R278, R281,
R288, R305 and R315: what the conditions that several event rows share select, wherever the source determines it; the
rest is open (log entry 5), or the model's reading (log entries 21, 41, 45 and 51). Three clauses are the model's
choices, beside log entry 59 for the number of misses, those to uncacheable memory and I/O space included: that a
partial read is one from uncacheable memory or of an I/O instruction and no other, where rule R204 adds "and more" (log
entry 10); that a cycle dispatches one micro-op for each busy port (log entry 28); that BOTH_CORE selects the one core
of a processor that has one (log entry 31). A deferred transaction is no burst: log entry 56. -/
def Obligations.SharedConditionsSelect : Prop :=
  ∀ (s : State) (q : Settings) (x : CoreId),
    ((s.triggerHolds x .tooManyMisses = true ↔ s.params.maxL1dMisses < (s.core x).pipe.misses.length) ∧
    (∀ l, s.triggerHolds x (.lineSplit l) = true ↔
      l.addr / s.params.lineBytes ≠ (l.addr + l.size - 1) / s.params.lineBytes) ∧
    (∀ a, s.triggerHolds x (.partialRead a) = true ↔ a.write = false ∧ (a.memType = .uncacheable ∨ a.memType = .io)) ∧
    (s.triggerHolds x .lockedLoad = true ↔ (s.core x).pipe.lockedLoad = true) ∧ s.triggerHolds x .unlisted = true) ∧
    ((q.core = .self → s.selectedCores q x = [x]) ∧
    (q.core = .bothCore → s.params.nCores = 1 → s.selectedCores q x = [.c0]) ∧
    (q.core = .bothCore → s.params.nCores ≠ 1 → s.selectedCores q x = [.c0, .c1])) ∧
    (s.isL2Read .l1dRead = true ∧ s.isL2Read .hwPrefetch = true ∧ s.isL2Read .l1dWrite = false ∧
    s.isL2Read .ifetch = false ∧ s.isL2Store .l1dWrite = true ∧
    (∀ k ∈ [L2Kind.l1dRead, .l1dPrefetch, .ifetch, .hwPrefetch, .itlbMiss, .dtlbMiss], s.isL2Store k = false) ∧
    s.countsL1dPrefetch false = true ∧
    (∀ user source : ExecUnit, source ≠ .load → (s.generatedElsewhere user source = true ↔ user ≠ source)) ∧
    ∀ k ∈ [L2Kind.l1dRead, .l1dWrite, .l1dLock, .l1dPrefetch, .ifetch, .hwPrefetch], s.isL2Rqst k = true) ∧
    ((∀ st, s.mesiOf q st st = q.mesiSel st) ∧
    (∀ st st', q.mesiSel st = true → q.mesiSel st' = true → s.mesiOf q st st' = true) ∧
    (∀ st st', q.mesiSel st = false → q.mesiSel st' = false → s.mesiOf q st st' = false)) ∧
    ((∀ m ∈ [Miss.demand .cacheable, .demand .writeThrough, .demand .writeCombine, .hwPrefetch], s.countsMiss m = true) ∧
    (∀ m ∈ [Miss.softwarePrefetch .writeThrough, .softwarePrefetch .writeCombine], s.countsMiss m = true) ∧
    s.countsMiss (.demand .uncacheable) = false ∧ s.countsMiss (.softwarePrefetch .uncacheable) = false ∧
    ∀ r : PendingRead, r.counted = true ↔ r.fullLine = true ∧ r.cacheable = true ∧ r.readForOwnership = false ∧
      (r.reader = .l1d ∨ r.reader = .l2Prefetcher)) ∧
    (let alone := fun y => s.hasCore y.other = true ∧ (s.core y).halted = true ∧ (s.core y.other).halted = false
    let idle := fun y => (s.core y).busQueue = [] ∨ alone y
    (∀ y, s.l2Idle y = true ↔ (s.core y).pipe.l2Pending = 0 ∨ alone y) ∧
    ((∀ y ∈ s.selectedCores q x, idle y) → s.busQueueEmpty q x = true) ∧
    ((∀ y ∈ s.selectedCores q x, ¬idle y) → s.busQueueEmpty q x = false)) ∧
    ((∀ k ∈ [BusKind.readForOwnership, .explicitWriteback, .writeCombineLine], s.isBurst k = true) ∧
    (∀ r, s.isBurst (.burstRead r) = true) ∧
    ∀ k ∈ [BusKind.partialRead, .partialWrite, .invalidate, .io, .deferred], s.isBurst k = false) ∧
    (∀ b : Branch, (b.kind = .indirect → s.isIndirect b = true) ∧
      (b.kind = .conditional ∨ b.kind = .call → s.isIndirect b = false)) ∧
    ∀ p : Pipe, p.dispatched = ([p.port0, p.port1, p.port2, p.port3, p.port4, p.port5].filter id).length

/-- Rules R15, R61, R66, R67, R69, R73, R74, R202, R203, R379, R394 to R396, R398 and R563: the pipeline of a core. An
instruction enters only while no limit is reached and neither a branch misprediction nor a ROB read port stall holds it
off; a store that has retired waits in the store buffer, its commit takes it out of the buffer and the pipeline, ends
the wait of the loads it blocks, and ends a drain when it is the last; a drain of any of the four causes lasts while
stores are in the buffer, and new stores wait; until it is over execution does not go on: no instruction enters or is
executed, no load is sent or made, and none that executes a load or a locked access at retirement retires; an
instruction such as a fence waits for the stores that are in the pipeline, for as long as it is in the pipe itself, and
until then is neither executed nor retired; no instruction retires that is not in the pipe or still waits for execution;
what is thrown away leaves with its blocked loads and with stores that have not retired, so that a drain goes on, and a
pipeline restart throws away the load it restarts and all that succeeds it (rules R72, R75, R217 and R508), one
occurrence; a split or an uncacheable load made at execution is blocked until retirement, and is performed then; a load
blocked by a store is not performed before the store commits, nor does the instruction that performs it at retirement
retire; a load that is blocked, for whichever reason, is one occurrence of that; the loads and instructions that retire
make room. That neither the halt state nor a stall of a store by a snoop or for order holds any of this back, and that
loads and stores are known by their bytes without the address space, is the model's choice: log entries 38, 58 and 68.
That a restart undoes nothing else, and that LOAD_LIMIT holds back loads alone, STORE_LIMIT stores alone and a waiting
fence itself alone, is the model's choice too: log entries 70 and 71. Log entries 43 and 44. -/
def Obligations.PipelineStoresAndLoads : Prop :=
  ∀ (s : State) (x : CoreId), s.hasCore x = true →
    (∀ load store : Bool, ∃ t, s.accept (.enterPipe x load store) = .next t ∧
      (((s.core x).inFlight.retirement < s.params.robLimit ∧ (s.core x).inFlight.execution < s.params.rsLimit ∧
          (load = true → (s.core x).inFlight.loads < s.params.loadLimit) ∧
          (store = true → (s.core x).inFlight.stores < s.params.storeLimit) ∧
          (s.core x).pipe.branchMissClear = false ∧ (s.core x).pipe.robReadPortStall = false ∧
          (s.core x).draining = none) →
        (t.core x).inFlight = ⟨(s.core x).inFlight.retirement + 1, (s.core x).inFlight.execution + 1,
          (s.core x).inFlight.loads + load.toNat, (s.core x).inFlight.stores + store.toNat⟩) ∧
      ((s.params.robLimit ≤ (s.core x).inFlight.retirement ∨ s.params.rsLimit ≤ (s.core x).inFlight.execution ∨
          (load = true ∧ s.params.loadLimit ≤ (s.core x).inFlight.loads) ∨
          (store = true ∧ s.params.storeLimit ≤ (s.core x).inFlight.stores) ∨
          (s.core x).pipe.branchMissClear = true ∨ (s.core x).pipe.robReadPortStall = true ∨
          (s.core x).draining ≠ none) → t = s)) ∧
    (∃ t f e, s.accept (.storeWait x) = .next t ∧ s.accept (.fence x) = .next f ∧ s.accept (.execute x) = .next e ∧
      ((s.core x).draining ≠ none ∨ (s.core x).retiredStores = [] → t = s) ∧
      (∀ st rest, (s.core x).draining = none → (s.core x).retiredStores = st :: rest →
        t = s.setCore x { s.core x with storeBuffer := (s.core x).storeBuffer ++ [st], retiredStores := rest }) ∧
      ((s.core x).inFlight.stores = 0 ∨ (s.core x).inFlight.execution ≤ (s.core x).fences.length → f = s) ∧
      (0 < (s.core x).inFlight.stores → (s.core x).fences.length < (s.core x).inFlight.execution →
        f = s.setCore x { s.core x with fences := (s.core x).inFlight.stores :: (s.core x).fences }) ∧
      ((s.core x).draining ≠ none → e = s ∧ ∀ b, s.accept (.loadSent x b) = .next s) ∧
      ((s.core x).inFlight.execution ≤ (s.core x).fences.length → e = s) ∧
      ((s.core x).draining = none → (s.core x).fences.length < (s.core x).inFlight.execution → e = s.setCore x { s.core x with
        inFlight := { (s.core x).inFlight with execution := (s.core x).inFlight.execution - 1 } })) ∧
    (∀ cause : DrainCause, ∃ t, s.accept (.drain x cause) = .next t ∧
      ((s.core x).storeBuffer = [] → t = s) ∧
      ((s.core x).storeBuffer ≠ [] → t = s.setCore x { s.core x with draining := some cause })) ∧
    ((s.core x).storeBuffer = [] → s.accept (.storeCommit x) = .next s) ∧
    (∀ st rest, (s.core x).storeBuffer = st :: rest → ∃ t, s.accept (.storeCommit x) = .next t ∧
      (t.core x).storeBuffer = rest ∧ (t.core x).retiredStores = (s.core x).retiredStores ∧
      (t.core x).inFlight = { (s.core x).inFlight with stores := (s.core x).inFlight.stores - 1 } ∧
      (t.core x).fences = ((s.core x).fences.filter (1 < ·)).map (· - 1) ∧
      (rest = [] → (t.core x).draining = none) ∧ (rest ≠ [] → (t.core x).draining = (s.core x).draining) ∧
      (t.core x).blocked.untilRetirement = (s.core x).blocked.untilRetirement ∧
      ∀ l c, (l, c) ∈ (t.core x).blocked.untilCommit ↔ (l, c) ∈ (s.core x).blocked.untilCommit ∧ c ≠ st) ∧
    (∀ a : DataRef, ∃ t p, s.accept (.dataRef x a) = .next t ∧ s.accept (.retiredRef x a) = .next p ∧
      (a.write = false → ((s.core x).draining ≠ none ∨ ∃ c, (a.bytes, c) ∈ (s.core x).blocked.untilCommit) →
        t = s ∧ p = s) ∧
      (a.write = true ∨ ((s.core x).draining = none ∧ ¬∃ c, (a.bytes, c) ∈ (s.core x).blocked.untilCommit) →
        (∃ st st', p.now = .found x (.dataRef a st st')) ∧ p.core x = s.core x) ∧
      (a.write = false → (s.core x).draining = none → (¬∃ c, (a.bytes, c) ∈ (s.core x).blocked.untilCommit) →
        (a.bytes.split s.params = true ∨ a.memType = .uncacheable ∨ a ∈ (s.core x).blocked.untilRetirement) →
          t.now = .occ x (.loadBlocked (.untilRetire a)) ∧ a ∈ (t.core x).blocked.untilRetirement) ∧
      (a.write = true ∨ ((s.core x).draining = none ∧ (¬∃ c, (a.bytes, c) ∈ (s.core x).blocked.untilCommit) ∧
        a.bytes.split s.params = false ∧ a.memType ≠ .uncacheable ∧ a ∉ (s.core x).blocked.untilRetirement) → t = p)) ∧
    (∀ b : LoadBlock, ∃ t, s.accept (.occ x (.loadBlocked b)) = .next t ∧ t.now = .occ x (.loadBlocked b) ∧
      t.turn = s.listening ∧ match b with
        | .overlap l c => (overlapBlocks l c = true → (l, c) ∈ (t.core x).blocked.untilCommit) ∧
          (overlapBlocks l c = false → t.core x = s.core x)
        | .untilRetire a => a ∈ (t.core x).blocked.untilRetirement ∧
          ∀ c, c ∈ (s.core x).blocked.untilRetirement → c ∈ (t.core x).blocked.untilRetirement
        | .unknownAddress | .unknownData _ _ | .overlapUnlisted | .l1d _ => t.core x = s.core x) ∧
    (∀ u : RetiredUop, ∃ t, s.accept (.retire x u) = .next t ∧
      (¬(s.core x).canRetire u → t = s) ∧
      ((s.core x).inFlight.retirement < u.completes.length + (s.core x).inFlight.execution → t = s) ∧
      ((s.core x).fences.length ≤ (s.core x).inFlight.execution →
        (s.core x).inFlight.retirement < u.completes.length + (s.core x).fences.length → t = s) ∧
      ((s.core x).canRetire u →
        (t.core x).inFlight = { (s.core x).inFlight with
          retirement := (s.core x).inFlight.retirement - u.completes.length
          loads := (s.core x).inFlight.loads - (u.completes.filter (·.load)).length } ∧
        (t.core x).retiredStores = ((s.core x).retiredStores ++ u.completes.filterMap (·.store)).take
          ((s.core x).inFlight.stores - (s.core x).storeBuffer.length) ∧
        (t.core x).storeBuffer = (s.core x).storeBuffer ∧
        t.queue = (u.completes.flatMap fun r => r.atRetirement.map (Input.retiredRef x)) ++ s.queue ∧
        (t.core x).blocked.untilCommit = (s.core x).blocked.untilCommit ∧
        ∀ a, a ∈ (t.core x).blocked.untilRetirement ↔
          a ∈ (s.core x).blocked.untilRetirement ∧ ∀ r ∈ u.completes, a ∉ r.atRetirement)) ∧
    ∀ (n : InFlight) (k : Nat) (loads : List DataRef), ∃ t, s.accept (.abandon x n k loads) = .next t ∧
      (t.core x).inFlight = ⟨(s.core x).inFlight.retirement - n.retirement,
        min ((s.core x).inFlight.execution - n.execution) ((s.core x).inFlight.retirement - n.retirement),
        (s.core x).inFlight.loads - n.loads,
        max ((s.core x).inFlight.stores - n.stores)
          ((s.core x).storeBuffer.length + (s.core x).retiredStores.length)⟩ ∧
      (t.core x).storeBuffer = (s.core x).storeBuffer ∧ (t.core x).retiredStores = (s.core x).retiredStores ∧
      (∀ m, m ∈ (t.core x).fences ↔ 0 < m ∧ ∃ f ∈ (s.core x).fences.drop
          (max k ((s.core x).fences.length - (t.core x).inFlight.execution)),
        m = min f (t.core x).inFlight.stores) ∧
      (t.core x).draining = (s.core x).draining ∧
      t.core x = { s.core x with
        inFlight := (t.core x).inFlight, fences := (t.core x).fences, blocked := (t.core x).blocked } ∧
      (∀ a, a ∈ (t.core x).blocked.untilRetirement ↔ a ∈ (s.core x).blocked.untilRetirement ∧ a ∉ loads) ∧
      (∀ l c, (l, c) ∈ (t.core x).blocked.untilCommit ↔
        (l, c) ∈ (s.core x).blocked.untilCommit ∧ ∀ a ∈ loads, a.bytes ≠ l) ∧
      t.now = s.now ∧ t.turn = s.turn ∧
      ∀ cause : Nuke, ∃ r a, s.accept (.nuke x cause n k loads) = .next r ∧ r.now = .found x (.nuke cause) ∧
        r.turn = s.listening ∧ r.core x = a.core x ∧ (∀ y, y ≠ x → r.core y = s.core y) ∧
        s.accept (.abandon x (if cause = .selfModifyingCode then n
          else { n with retirement := n.retirement + 1, loads := n.loads + 1 }) k loads) = .next a
end

