-- ==== Sys2Proof/Laws/State.lean ====
section
/-! SUPPORT. Laws/State.lean: one lemma per field per update of the state, so that no proof unfolds a record update. -/

namespace Sys2Proof.Machine

@[simp] theorem setCore_params (s : State) (x : CoreId) (c : Core) : (s.setCore x c).params = s.params :=
  by cases x <;> rfl

@[simp] theorem setCore_l2 (s : State) (x : CoreId) (c : Core) : (s.setCore x c).l2 = s.l2 := by cases x <;> rfl

@[simp] theorem setCore_bus (s : State) (x : CoreId) (c : Core) : (s.setCore x c).bus = s.bus := by cases x <;> rfl

@[simp] theorem setCore_bnrLeft (s : State) (x : CoreId) (c : Core) : (s.setCore x c).bnrLeft = s.bnrLeft :=
  by cases x <;> rfl

@[simp] theorem setCore_snoopStallLeft (s : State) (x : CoreId) (c : Core) : (s.setCore x c).snoopStallLeft = s.snoopStallLeft :=
  by cases x <;> rfl

@[simp] theorem setCore_heldBack (s : State) (x : CoreId) (c : Core) : (s.setCore x c).heldBack = s.heldBack :=
  by cases x <;> rfl

@[simp] theorem setCore_thermal (s : State) (x : CoreId) (c : Core) : (s.setCore x c).thermal = s.thermal :=
  by cases x <;> rfl

@[simp] theorem setCore_tsc (s : State) (x : CoreId) (c : Core) : (s.setCore x c).tsc = s.tsc := by cases x <;> rfl

@[simp] theorem setCore_refCredit (s : State) (x : CoreId) (c : Core) : (s.setCore x c).refCredit = s.refCredit := by cases x <;> rfl

@[simp] theorem setCore_now (s : State) (x : CoreId) (c : Core) : (s.setCore x c).now = s.now := by cases x <;> rfl

@[simp] theorem setCore_moments (s : State) (x : CoreId) (c : Core) : (s.setCore x c).moments = s.moments :=
  by cases x <;> rfl

@[simp] theorem setCore_turn (s : State) (x : CoreId) (c : Core) : (s.setCore x c).turn = s.turn := by cases x <;> rfl

@[simp] theorem setCore_queue (s : State) (x : CoreId) (c : Core) : (s.setCore x c).queue = s.queue :=
  by cases x <;> rfl

@[simp] theorem setCore_readout (s : State) (x : CoreId) (c : Core) : (s.setCore x c).readout = s.readout :=
  by cases x <;> rfl

@[simp] theorem setCore_drawn (s : State) (x : CoreId) (c : Core) : (s.setCore x c).drawn = s.drawn :=
  by cases x <;> rfl

@[simp] theorem draw_params (s : State) : s.draw.params = s.params := rfl

@[simp] theorem draw_core0 (s : State) : s.draw.core0 = s.core0 := rfl

@[simp] theorem draw_core1 (s : State) : s.draw.core1 = s.core1 := rfl

@[simp] theorem draw_l2 (s : State) : s.draw.l2 = s.l2 := rfl

@[simp] theorem draw_bus (s : State) : s.draw.bus = s.bus := rfl

@[simp] theorem draw_bnrLeft (s : State) : s.draw.bnrLeft = s.bnrLeft := rfl

@[simp] theorem draw_snoopStallLeft (s : State) : s.draw.snoopStallLeft = s.snoopStallLeft := rfl

@[simp] theorem draw_heldBack (s : State) : s.draw.heldBack = s.heldBack := rfl

@[simp] theorem draw_thermal (s : State) : s.draw.thermal = s.thermal := rfl

@[simp] theorem draw_tsc (s : State) : s.draw.tsc = s.tsc := rfl

@[simp] theorem draw_refCredit (s : State) : s.draw.refCredit = s.refCredit := rfl

@[simp] theorem draw_now (s : State) : s.draw.now = s.now := rfl

@[simp] theorem draw_moments (s : State) : s.draw.moments = s.moments := rfl

@[simp] theorem draw_turn (s : State) : s.draw.turn = s.turn := rfl

@[simp] theorem draw_queue (s : State) : s.draw.queue = s.queue := rfl

@[simp] theorem draw_readout (s : State) : s.draw.readout = s.readout := rfl

@[simp] theorem drawApprox_params (s : State) : s.drawApprox.params = s.params :=
  by unfold State.drawApprox; split <;> rfl

@[simp] theorem drawApprox_core0 (s : State) : s.drawApprox.core0 = s.core0 :=
  by unfold State.drawApprox; split <;> rfl

@[simp] theorem drawApprox_core1 (s : State) : s.drawApprox.core1 = s.core1 :=
  by unfold State.drawApprox; split <;> rfl

@[simp] theorem drawApprox_l2 (s : State) : s.drawApprox.l2 = s.l2 := by unfold State.drawApprox; split <;> rfl

@[simp] theorem drawApprox_bus (s : State) : s.drawApprox.bus = s.bus := by unfold State.drawApprox; split <;> rfl

@[simp] theorem drawApprox_bnrLeft (s : State) : s.drawApprox.bnrLeft = s.bnrLeft :=
  by unfold State.drawApprox; split <;> rfl

@[simp] theorem drawApprox_snoopStallLeft (s : State) : s.drawApprox.snoopStallLeft = s.snoopStallLeft :=
  by unfold State.drawApprox; split <;> rfl

@[simp] theorem drawApprox_heldBack (s : State) : s.drawApprox.heldBack = s.heldBack :=
  by unfold State.drawApprox; split <;> rfl

@[simp] theorem drawApprox_thermal (s : State) : s.drawApprox.thermal = s.thermal :=
  by unfold State.drawApprox; split <;> rfl

@[simp] theorem drawApprox_tsc (s : State) : s.drawApprox.tsc = s.tsc := by unfold State.drawApprox; split <;> rfl

@[simp] theorem drawApprox_refCredit (s : State) : s.drawApprox.refCredit = s.refCredit := by unfold State.drawApprox; split <;> rfl

@[simp] theorem drawApprox_now (s : State) : s.drawApprox.now = s.now := by unfold State.drawApprox; split <;> rfl

@[simp] theorem drawApprox_moments (s : State) : s.drawApprox.moments = s.moments :=
  by unfold State.drawApprox; split <;> rfl

@[simp] theorem drawApprox_turn (s : State) : s.drawApprox.turn = s.turn := by unfold State.drawApprox; split <;> rfl

@[simp] theorem drawApprox_queue (s : State) : s.drawApprox.queue = s.queue :=
  by unfold State.drawApprox; split <;> rfl

@[simp] theorem drawApprox_readout (s : State) : s.drawApprox.readout = s.readout :=
  by unfold State.drawApprox; split <;> rfl

@[simp] theorem served_params (s : State) (r : List CounterId) : (s.served r).params = s.params := rfl

@[simp] theorem served_core0 (s : State) (r : List CounterId) : (s.served r).core0 = s.core0 := rfl

@[simp] theorem served_core1 (s : State) (r : List CounterId) : (s.served r).core1 = s.core1 := rfl

@[simp] theorem served_l2 (s : State) (r : List CounterId) : (s.served r).l2 = s.l2 := rfl

@[simp] theorem served_bus (s : State) (r : List CounterId) : (s.served r).bus = s.bus := rfl

@[simp] theorem served_bnrLeft (s : State) (r : List CounterId) : (s.served r).bnrLeft = s.bnrLeft := rfl

@[simp] theorem served_snoopStallLeft (s : State) (r : List CounterId) : (s.served r).snoopStallLeft = s.snoopStallLeft :=
  rfl

@[simp] theorem served_heldBack (s : State) (r : List CounterId) : (s.served r).heldBack = s.heldBack := rfl

@[simp] theorem served_thermal (s : State) (r : List CounterId) : (s.served r).thermal = s.thermal := rfl

@[simp] theorem served_tsc (s : State) (r : List CounterId) : (s.served r).tsc = s.tsc := rfl

@[simp] theorem served_refCredit (s : State) (r : List CounterId) : (s.served r).refCredit = s.refCredit := rfl

@[simp] theorem served_now (s : State) (r : List CounterId) : (s.served r).now = s.now := rfl

@[simp] theorem served_moments (s : State) (r : List CounterId) : (s.served r).moments = s.moments := rfl

@[simp] theorem served_queue (s : State) (r : List CounterId) : (s.served r).queue = s.queue := rfl

@[simp] theorem served_readout (s : State) (r : List CounterId) : (s.served r).readout = s.readout := rfl

@[simp] theorem served_drawn (s : State) (r : List CounterId) : (s.served r).drawn = s.drawn := rfl

@[simp] theorem begin_params (s : State) (m : Moment) : (s.begin m).params = s.params := rfl

@[simp] theorem begin_core0 (s : State) (m : Moment) : (s.begin m).core0 = s.core0 := rfl

@[simp] theorem begin_core1 (s : State) (m : Moment) : (s.begin m).core1 = s.core1 := rfl

@[simp] theorem begin_l2 (s : State) (m : Moment) : (s.begin m).l2 = s.l2 := rfl

@[simp] theorem begin_bus (s : State) (m : Moment) : (s.begin m).bus = s.bus := rfl

@[simp] theorem begin_bnrLeft (s : State) (m : Moment) : (s.begin m).bnrLeft = s.bnrLeft := rfl

@[simp] theorem begin_snoopStallLeft (s : State) (m : Moment) : (s.begin m).snoopStallLeft = s.snoopStallLeft := rfl

@[simp] theorem begin_heldBack (s : State) (m : Moment) : (s.begin m).heldBack = s.heldBack := rfl

@[simp] theorem begin_thermal (s : State) (m : Moment) : (s.begin m).thermal = s.thermal := rfl

@[simp] theorem begin_tsc (s : State) (m : Moment) : (s.begin m).tsc = s.tsc := rfl

@[simp] theorem begin_refCredit (s : State) (m : Moment) : (s.begin m).refCredit = s.refCredit := rfl

@[simp] theorem begin_queue (s : State) (m : Moment) : (s.begin m).queue = s.queue := rfl

@[simp] theorem begin_readout (s : State) (m : Moment) : (s.begin m).readout = s.readout := rfl

@[simp] theorem begin_drawn (s : State) (m : Moment) : (s.begin m).drawn = s.drawn := rfl

@[simp] theorem answers_params (s : State) (v : Nat) : (s.answers v).params = s.params := rfl

@[simp] theorem answers_core0 (s : State) (v : Nat) : (s.answers v).core0 = s.core0 := rfl

@[simp] theorem answers_core1 (s : State) (v : Nat) : (s.answers v).core1 = s.core1 := rfl

@[simp] theorem answers_l2 (s : State) (v : Nat) : (s.answers v).l2 = s.l2 := rfl

@[simp] theorem answers_bus (s : State) (v : Nat) : (s.answers v).bus = s.bus := rfl

@[simp] theorem answers_bnrLeft (s : State) (v : Nat) : (s.answers v).bnrLeft = s.bnrLeft := rfl

@[simp] theorem answers_snoopStallLeft (s : State) (v : Nat) : (s.answers v).snoopStallLeft = s.snoopStallLeft := rfl

@[simp] theorem answers_heldBack (s : State) (v : Nat) : (s.answers v).heldBack = s.heldBack := rfl

@[simp] theorem answers_thermal (s : State) (v : Nat) : (s.answers v).thermal = s.thermal := rfl

@[simp] theorem answers_tsc (s : State) (v : Nat) : (s.answers v).tsc = s.tsc := rfl

@[simp] theorem answers_refCredit (s : State) (v : Nat) : (s.answers v).refCredit = s.refCredit := rfl

@[simp] theorem answers_now (s : State) (v : Nat) : (s.answers v).now = s.now := rfl

@[simp] theorem answers_moments (s : State) (v : Nat) : (s.answers v).moments = s.moments := rfl

@[simp] theorem answers_turn (s : State) (v : Nat) : (s.answers v).turn = s.turn := rfl

@[simp] theorem answers_queue (s : State) (v : Nat) : (s.answers v).queue = s.queue := rfl

@[simp] theorem answers_drawn (s : State) (v : Nat) : (s.answers v).drawn = s.drawn := rfl

@[simp] theorem answersAny_params (s : State) : s.answersAny.params = s.params := rfl

@[simp] theorem answersAny_core0 (s : State) : s.answersAny.core0 = s.core0 := rfl

@[simp] theorem answersAny_core1 (s : State) : s.answersAny.core1 = s.core1 := rfl

@[simp] theorem answersAny_l2 (s : State) : s.answersAny.l2 = s.l2 := rfl

@[simp] theorem answersAny_bus (s : State) : s.answersAny.bus = s.bus := rfl

@[simp] theorem answersAny_bnrLeft (s : State) : s.answersAny.bnrLeft = s.bnrLeft := rfl

@[simp] theorem answersAny_snoopStallLeft (s : State) : s.answersAny.snoopStallLeft = s.snoopStallLeft := rfl

@[simp] theorem answersAny_heldBack (s : State) : s.answersAny.heldBack = s.heldBack := rfl

@[simp] theorem answersAny_thermal (s : State) : s.answersAny.thermal = s.thermal := rfl

@[simp] theorem answersAny_tsc (s : State) : s.answersAny.tsc = s.tsc := rfl

@[simp] theorem answersAny_refCredit (s : State) : s.answersAny.refCredit = s.refCredit := rfl

@[simp] theorem answersAny_now (s : State) : s.answersAny.now = s.now := rfl

@[simp] theorem answersAny_moments (s : State) : s.answersAny.moments = s.moments := rfl

@[simp] theorem answersAny_turn (s : State) : s.answersAny.turn = s.turn := rfl

@[simp] theorem answersAny_queue (s : State) : s.answersAny.queue = s.queue := rfl

@[simp] theorem draw_core (s : State) (x : CoreId) : s.draw.core x = s.core x := by cases x <;> rfl

@[simp] theorem drawApprox_core (s : State) (x : CoreId) : s.drawApprox.core x = s.core x :=
  by unfold State.drawApprox; split <;> rfl

@[simp] theorem served_core (s : State) (r : List CounterId) (x : CoreId) : (s.served r).core x = s.core x :=
  by cases x <;> rfl

@[simp] theorem begin_core (s : State) (m : Moment) (x : CoreId) : (s.begin m).core x = s.core x := by cases x <;> rfl

@[simp] theorem answers_core (s : State) (v : Nat) (x : CoreId) : (s.answers v).core x = s.core x :=
  by cases x <;> rfl

@[simp] theorem answersAny_core (s : State) (x : CoreId) : s.answersAny.core x = s.core x := by cases x <;> rfl

@[simp] theorem begin_now (s : State) (m : Moment) : (s.begin m).now = m := rfl

@[simp] theorem begin_moments (s : State) (m : Moment) : (s.begin m).moments = s.moments + 1 := rfl

/-- A moment that begins is served to every counter that is counting. -/
theorem begin_serves (s : State) (m : Moment) : (s.begin m).turn = (s.begin m).listening := rfl

@[simp] theorem begin_turn (s : State) (m : Moment) : (s.begin m).turn = s.listening := rfl

@[simp] theorem served_turn (s : State) (r : List CounterId) : (s.served r).turn = r := rfl

@[simp] theorem answers_readout (s : State) (v : Nat) : (s.answers v).readout = some v := rfl

@[simp] theorem setCore_core_same (s : State) (x : CoreId) (c : Core) : (s.setCore x c).core x = c :=
  by cases x <;> rfl

theorem setCore_core_other (s : State) {x y : CoreId} (c : Core) (h : y ≠ x) : (s.setCore x c).core y = s.core y := by
  cases x <;> cases y <;> first | rfl | exact absurd rfl h

@[simp] theorem setFixedCtr_gp (c : Core) (f : FixedId) (v : FixedCounter) : (c.setFixedCtr f v).gp = c.gp :=
  by cases f <;> rfl

@[simp] theorem setFixedCtr_fixedStarted (c : Core) (f : FixedId) (v : FixedCounter) : (c.setFixedCtr f v).fixedStarted = c.fixedStarted :=
  by cases f <;> rfl

@[simp] theorem setFixedCtr_halted (c : Core) (f : FixedId) (v : FixedCounter) : (c.setFixedCtr f v).halted = c.halted :=
  by cases f <;> rfl

@[simp] theorem setFixedCtr_cState (c : Core) (f : FixedId) (v : FixedCounter) : (c.setFixedCtr f v).cState = c.cState :=
  by cases f <;> rfl

@[simp] theorem setFixedCtr_frequency (c : Core) (f : FixedId) (v : FixedCounter) : (c.setFixedCtr f v).frequency = c.frequency :=
  by cases f <;> rfl

@[simp] theorem setFixedCtr_voltage (c : Core) (f : FixedId) (v : FixedCounter) : (c.setFixedCtr f v).voltage = c.voltage :=
  by cases f <;> rfl

@[simp] theorem setFixedCtr_normalFrequency (c : Core) (f : FixedId) (v : FixedCounter) : (c.setFixedCtr f v).normalFrequency = c.normalFrequency :=
  by cases f <;> rfl

@[simp] theorem setFixedCtr_normalVoltage (c : Core) (f : FixedId) (v : FixedCounter) : (c.setFixedCtr f v).normalVoltage = c.normalVoltage :=
  by cases f <;> rfl

@[simp] theorem setFixedCtr_intDisabled (c : Core) (f : FixedId) (v : FixedCounter) : (c.setFixedCtr f v).intDisabled = c.intDisabled :=
  by cases f <;> rfl

@[simp] theorem setFixedCtr_intPending (c : Core) (f : FixedId) (v : FixedCounter) : (c.setFixedCtr f v).intPending = c.intPending :=
  by cases f <;> rfl

@[simp] theorem setFixedCtr_regs (c : Core) (f : FixedId) (v : FixedCounter) : (c.setFixedCtr f v).regs = c.regs :=
  by cases f <;> rfl

@[simp] theorem setFixedCtr_es (c : Core) (f : FixedId) (v : FixedCounter) : (c.setFixedCtr f v).es = c.es :=
  by cases f <;> rfl

@[simp] theorem setFixedCtr_ds (c : Core) (f : FixedId) (v : FixedCounter) : (c.setFixedCtr f v).ds = c.ds :=
  by cases f <;> rfl

@[simp] theorem setFixedCtr_fs (c : Core) (f : FixedId) (v : FixedCounter) : (c.setFixedCtr f v).fs = c.fs :=
  by cases f <;> rfl

@[simp] theorem setFixedCtr_gs (c : Core) (f : FixedId) (v : FixedCounter) : (c.setFixedCtr f v).gs = c.gs :=
  by cases f <;> rfl

@[simp] theorem setFixedCtr_espImplicit (c : Core) (f : FixedId) (v : FixedCounter) : (c.setFixedCtr f v).espImplicit = c.espImplicit :=
  by cases f <;> rfl

@[simp] theorem setFixedCtr_lastFpMmx (c : Core) (f : FixedId) (v : FixedCounter) : (c.setFixedCtr f v).lastFpMmx = c.lastFpMmx :=
  by cases f <;> rfl

@[simp] theorem setFixedCtr_pipe (c : Core) (f : FixedId) (v : FixedCounter) : (c.setFixedCtr f v).pipe = c.pipe :=
  by cases f <;> rfl

@[simp] theorem setFixedCtr_inFlight (c : Core) (f : FixedId) (v : FixedCounter) : (c.setFixedCtr f v).inFlight = c.inFlight :=
  by cases f <;> rfl

@[simp] theorem setFixedCtr_retiredStores (c : Core) (f : FixedId) (v : FixedCounter) : (c.setFixedCtr f v).retiredStores = c.retiredStores :=
  by cases f <;> rfl

@[simp] theorem setFixedCtr_storeBuffer (c : Core) (f : FixedId) (v : FixedCounter) : (c.setFixedCtr f v).storeBuffer = c.storeBuffer :=
  by cases f <;> rfl

@[simp] theorem setFixedCtr_draining (c : Core) (f : FixedId) (v : FixedCounter) : (c.setFixedCtr f v).draining = c.draining :=
  by cases f <;> rfl

@[simp] theorem setFixedCtr_fences (c : Core) (f : FixedId) (v : FixedCounter) : (c.setFixedCtr f v).fences = c.fences :=
  by cases f <;> rfl

@[simp] theorem setFixedCtr_blocked (c : Core) (f : FixedId) (v : FixedCounter) : (c.setFixedCtr f v).blocked = c.blocked :=
  by cases f <;> rfl

@[simp] theorem setFixedCtr_predictors (c : Core) (f : FixedId) (v : FixedCounter) : (c.setFixedCtr f v).predictors = c.predictors :=
  by cases f <;> rfl

@[simp] theorem setFixedCtr_busQueue (c : Core) (f : FixedId) (v : FixedCounter) : (c.setFixedCtr f v).busQueue = c.busQueue :=
  by cases f <;> rfl

@[simp] theorem setFixedCtr_portSnoops (c : Core) (f : FixedId) (v : FixedCounter) : (c.setFixedCtr f v).portSnoops = c.portSnoops :=
  by cases f <;> rfl

@[simp] theorem setFixedCtr_portSnooping (c : Core) (f : FixedId) (v : FixedCounter) : (c.setFixedCtr f v).portSnooping = c.portSnooping :=
  by cases f <;> rfl

@[simp] theorem setFixedCtr_fpswStallLeft (c : Core) (f : FixedId) (v : FixedCounter) : (c.setFixedCtr f v).fpswStallLeft = c.fpswStallLeft :=
  by cases f <;> rfl

@[simp] theorem setFixedCtr_fpswStalling (c : Core) (f : FixedId) (v : FixedCounter) : (c.setFixedCtr f v).fpswStalling = c.fpswStalling :=
  by cases f <;> rfl

@[simp] theorem setFixedCtr_tlb (c : Core) (f : FixedId) (v : FixedCounter) : (c.setFixedCtr f v).tlb = c.tlb :=
  by cases f <;> rfl

@[simp] theorem setFixedCtr_pageWalks (c : Core) (f : FixedId) (v : FixedCounter) : (c.setFixedCtr f v).pageWalks = c.pageWalks :=
  by cases f <;> rfl

@[simp] theorem setFixedCtr_slowDecodeLeft (c : Core) (f : FixedId) (v : FixedCounter) : (c.setFixedCtr f v).slowDecodeLeft = c.slowDecodeLeft :=
  by cases f <;> rfl

@[simp] theorem setFixedCtr_slowDecoding (c : Core) (f : FixedId) (v : FixedCounter) : (c.setFixedCtr f v).slowDecoding = c.slowDecoding :=
  by cases f <;> rfl

@[simp] theorem setFixedCtr_lockedLines (c : Core) (f : FixedId) (v : FixedCounter) : (c.setFixedCtr f v).lockedLines = c.lockedLines :=
  by cases f <;> rfl

@[simp] theorem setFixedCtr_prefetching (c : Core) (f : FixedId) (v : FixedCounter) : (c.setFixedCtr f v).prefetching = c.prefetching :=
  by cases f <;> rfl

@[simp] theorem setFixedCtr_l1d (c : Core) (f : FixedId) (v : FixedCounter) : (c.setFixedCtr f v).l1d = c.l1d :=
  by cases f <;> rfl

@[simp] theorem setFixedCtr_l1i (c : Core) (f : FixedId) (v : FixedCounter) : (c.setFixedCtr f v).l1i = c.l1i :=
  by cases f <;> rfl

@[simp] theorem followedBy_params (s : State) (l : List Input) : (s.followedBy l).params = s.params := rfl

@[simp] theorem followedBy_core0 (s : State) (l : List Input) : (s.followedBy l).core0 = s.core0 := rfl

@[simp] theorem followedBy_core1 (s : State) (l : List Input) : (s.followedBy l).core1 = s.core1 := rfl

@[simp] theorem followedBy_l2 (s : State) (l : List Input) : (s.followedBy l).l2 = s.l2 := rfl

@[simp] theorem followedBy_bus (s : State) (l : List Input) : (s.followedBy l).bus = s.bus := rfl

@[simp] theorem followedBy_bnrLeft (s : State) (l : List Input) : (s.followedBy l).bnrLeft = s.bnrLeft := rfl

@[simp] theorem followedBy_snoopStallLeft (s : State) (l : List Input) : (s.followedBy l).snoopStallLeft = s.snoopStallLeft := rfl

@[simp] theorem followedBy_heldBack (s : State) (l : List Input) : (s.followedBy l).heldBack = s.heldBack := rfl

@[simp] theorem followedBy_thermal (s : State) (l : List Input) : (s.followedBy l).thermal = s.thermal := rfl

@[simp] theorem followedBy_tsc (s : State) (l : List Input) : (s.followedBy l).tsc = s.tsc := rfl

@[simp] theorem followedBy_refCredit (s : State) (l : List Input) : (s.followedBy l).refCredit = s.refCredit := rfl

@[simp] theorem followedBy_now (s : State) (l : List Input) : (s.followedBy l).now = s.now := rfl

@[simp] theorem followedBy_moments (s : State) (l : List Input) : (s.followedBy l).moments = s.moments := rfl

@[simp] theorem followedBy_turn (s : State) (l : List Input) : (s.followedBy l).turn = s.turn := rfl

@[simp] theorem followedBy_readout (s : State) (l : List Input) : (s.followedBy l).readout = s.readout := rfl

@[simp] theorem followedBy_drawn (s : State) (l : List Input) : (s.followedBy l).drawn = s.drawn := rfl

@[simp] theorem followedBy_core (s : State) (l : List Input) (x : CoreId) : (s.followedBy l).core x = s.core x := by
  cases x <;> rfl

@[simp] theorem followedBy_queue (s : State) (l : List Input) : (s.followedBy l).queue = l ++ s.queue := rfl

@[simp] theorem followedBy_nil (s : State) : s.followedBy [] = s := rfl

@[simp] theorem workOff_params (s : State) (t : Tick) : (s.workOff t).params = s.params := rfl

@[simp] theorem workOff_l2 (s : State) (t : Tick) : (s.workOff t).l2 = s.l2 := rfl

@[simp] theorem workOff_bus (s : State) (t : Tick) : (s.workOff t).bus = s.bus := rfl

@[simp] theorem workOff_bnrLeft (s : State) (t : Tick) : (s.workOff t).bnrLeft = s.bnrLeft := rfl

@[simp] theorem workOff_snoopStallLeft (s : State) (t : Tick) : (s.workOff t).snoopStallLeft = s.snoopStallLeft := rfl

@[simp] theorem workOff_heldBack (s : State) (t : Tick) : (s.workOff t).heldBack = s.heldBack := rfl

@[simp] theorem workOff_thermal (s : State) (t : Tick) : (s.workOff t).thermal = s.thermal := rfl

@[simp] theorem workOff_tsc (s : State) (t : Tick) : (s.workOff t).tsc = s.tsc := rfl

@[simp] theorem workOff_refCredit (s : State) (t : Tick) : (s.workOff t).refCredit = s.refCredit := rfl

@[simp] theorem workOff_now (s : State) (t : Tick) : (s.workOff t).now = s.now := rfl

@[simp] theorem workOff_moments (s : State) (t : Tick) : (s.workOff t).moments = s.moments := rfl

@[simp] theorem workOff_turn (s : State) (t : Tick) : (s.workOff t).turn = s.turn := rfl

@[simp] theorem workOff_readout (s : State) (t : Tick) : (s.workOff t).readout = s.readout := rfl

@[simp] theorem workOff_drawn (s : State) (t : Tick) : (s.workOff t).drawn = s.drawn := rfl

@[simp] theorem workOff_queue (s : State) (t : Tick) : (s.workOff t).queue = s.queue := rfl

/-- A core works off its stalls in the cycles of the clock its rows do not name, and in no other. -/
theorem workOff_core (s : State) (t : Tick) (x : CoreId) :
    (s.workOff t).core x = if unnamedTick s x = t then (s.core x).workOff else s.core x := by
  cases x <;> rfl

@[simp] theorem Core.workOff_gp (c : Core) : c.workOff.gp = c.gp := rfl

@[simp] theorem Core.workOff_fixedStarted (c : Core) : c.workOff.fixedStarted = c.fixedStarted := rfl

@[simp] theorem Core.workOff_fixed0 (c : Core) : c.workOff.fixed0 = c.fixed0 := rfl

@[simp] theorem Core.workOff_fixed1 (c : Core) : c.workOff.fixed1 = c.fixed1 := rfl

@[simp] theorem Core.workOff_fixed2 (c : Core) : c.workOff.fixed2 = c.fixed2 := rfl

@[simp] theorem Core.workOff_halted (c : Core) : c.workOff.halted = c.halted := rfl

@[simp] theorem Core.workOff_cState (c : Core) : c.workOff.cState = c.cState := rfl

@[simp] theorem Core.workOff_frequency (c : Core) : c.workOff.frequency = c.frequency := rfl

@[simp] theorem Core.workOff_voltage (c : Core) : c.workOff.voltage = c.voltage := rfl

@[simp] theorem Core.workOff_normalFrequency (c : Core) : c.workOff.normalFrequency = c.normalFrequency := rfl

@[simp] theorem Core.workOff_normalVoltage (c : Core) : c.workOff.normalVoltage = c.normalVoltage := rfl

@[simp] theorem Core.workOff_intDisabled (c : Core) : c.workOff.intDisabled = c.intDisabled := rfl

@[simp] theorem Core.workOff_intPending (c : Core) : c.workOff.intPending = c.intPending := rfl

@[simp] theorem Core.workOff_regs (c : Core) : c.workOff.regs = c.regs := rfl

@[simp] theorem Core.workOff_es (c : Core) : c.workOff.es = c.es := rfl

@[simp] theorem Core.workOff_ds (c : Core) : c.workOff.ds = c.ds := rfl

@[simp] theorem Core.workOff_fs (c : Core) : c.workOff.fs = c.fs := rfl

@[simp] theorem Core.workOff_gs (c : Core) : c.workOff.gs = c.gs := rfl

@[simp] theorem Core.workOff_espImplicit (c : Core) : c.workOff.espImplicit = c.espImplicit := rfl

@[simp] theorem Core.workOff_lastFpMmx (c : Core) : c.workOff.lastFpMmx = c.lastFpMmx := rfl

@[simp] theorem Core.workOff_pipe (c : Core) : c.workOff.pipe = c.pipe := rfl

@[simp] theorem Core.workOff_inFlight (c : Core) : c.workOff.inFlight = c.inFlight := rfl

@[simp] theorem Core.workOff_retiredStores (c : Core) : c.workOff.retiredStores = c.retiredStores := rfl

@[simp] theorem Core.workOff_storeBuffer (c : Core) : c.workOff.storeBuffer = c.storeBuffer := rfl

@[simp] theorem Core.workOff_draining (c : Core) : c.workOff.draining = c.draining := rfl

@[simp] theorem Core.workOff_fences (c : Core) : c.workOff.fences = c.fences := rfl

@[simp] theorem Core.workOff_blocked (c : Core) : c.workOff.blocked = c.blocked := rfl

@[simp] theorem Core.workOff_predictors (c : Core) : c.workOff.predictors = c.predictors := rfl

@[simp] theorem Core.workOff_busQueue (c : Core) : c.workOff.busQueue = c.busQueue := rfl

@[simp] theorem Core.workOff_tlb (c : Core) : c.workOff.tlb = c.tlb := rfl

@[simp] theorem Core.workOff_pageWalks (c : Core) : c.workOff.pageWalks = c.pageWalks := rfl

@[simp] theorem Core.workOff_lockedLines (c : Core) : c.workOff.lockedLines = c.lockedLines := rfl

@[simp] theorem Core.workOff_prefetching (c : Core) : c.workOff.prefetching = c.prefetching := rfl

@[simp] theorem Core.workOff_l1d (c : Core) : c.workOff.l1d = c.l1d := rfl

@[simp] theorem Core.workOff_l1i (c : Core) : c.workOff.l1i = c.l1i := rfl

@[simp] theorem setFixedCtr_same (c : Core) (f : FixedId) (v : FixedCounter) : (c.setFixedCtr f v).fixedCtr f = v :=
  by cases f <;> rfl

theorem setFixedCtr_other (c : Core) {f g : FixedId} (v : FixedCounter) (h : g ≠ f) :
    (c.setFixedCtr f v).fixedCtr g = c.fixedCtr g := by
  cases f <;> cases g <;> first | rfl | exact absurd rfl h

end Sys2Proof.Machine
end

