-- ==== Sys2Proof/Laws/Ops.lean ====
section
/-! SUPPORT. Laws/Ops.lean: for each shared operation one lemma that says once everything it can do: cache lines, `addTo`,
`select`, `read`, and the three ways a meaning counts. -/

namespace Sys2Proof.Machine

/-! ## Cache lines -/

/-- Every line listed after a write was listed before it or is the line written. -/
theorem mem_setLine (n : Nat) (st : LineState) :
    ∀ (m : LineMap) (e : Nat × LineState), e ∈ setLine m n st → e ∈ m ∨ e = (n, st) := by
  intro m
  induction m with
  | nil =>
    intro e he
    unfold setLine at he
    split at he
    · exact .inl he
    · exact .inr (by simpa using he)
  | cons a rest ih =>
    intro e he
    unfold setLine at he
    split at he
    · split at he
      · exact .inl he
      · rcases List.mem_cons.mp he with h | h
        · exact .inr h
        · exact .inl h
    · split at he
      · split at he
        · exact .inl (List.mem_cons_of_mem _ he)
        · rcases List.mem_cons.mp he with h | h
          · exact .inr h
          · exact .inl (List.mem_cons_of_mem _ h)
      · rcases List.mem_cons.mp he with h | h
        · exact .inl (h ▸ List.mem_cons_self)
        · exact (ih e h).imp (List.mem_cons_of_mem _) id

/-- The canonical form of a list with a first line, in words. -/
theorem linesWf_cons (k : Nat) (v : LineState) (rest : LineMap) :
    linesWf ((k, v) :: rest) = true ↔ v ≠ .i ∧ (∀ e ∈ rest, k < e.1) ∧ linesWf rest = true := by
  simp only [linesWf, Bool.and_eq_true, decide_eq_true_eq, List.all_eq_true, and_assoc]

/-- Every write of a line keeps the canonical form. -/
theorem setLine_wf (m : LineMap) (n : Nat) (st : LineState) (h : linesWf m = true) : linesWf (setLine m n st) = true := by
  induction m with
  | nil =>
    unfold setLine
    split
    · rfl
    · rename_i hst
      exact (linesWf_cons n st []).mpr ⟨hst, by simp, rfl⟩
  | cons a rest ih =>
    obtain ⟨k, v⟩ := a
    obtain ⟨hv, hr, hw⟩ := (linesWf_cons k v rest).mp h
    unfold setLine
    split
    · rename_i hlt
      split
      · exact h
      · rename_i hst
        refine (linesWf_cons _ _ _).mpr ⟨hst, fun e he => ?_, h⟩
        rcases List.mem_cons.mp he with rfl | he
        · exact hlt
        · exact Nat.lt_trans hlt (hr e he)
    · split
      · rename_i heq
        subst heq
        split
        · exact hw
        · rename_i hst
          exact (linesWf_cons _ _ _).mpr ⟨hst, hr, hw⟩
      · refine (linesWf_cons _ _ _).mpr ⟨hv, fun e he => ?_, ih hw⟩
        rcases mem_setLine n st rest e he with h' | rfl
        · exact hr e h'
        · show k < n
          omega

/-! ## Activity: what no event touches -/

@[simp] theorem activity_draw (s : State) : s.draw.activity = s.activity := rfl

@[simp] theorem activity_drawApprox (s : State) : s.drawApprox.activity = s.activity := by
  unfold State.drawApprox; split <;> rfl

/-- Replacing a core by one with the same activity changes nothing of the state's activity. -/
theorem activity_setCore (s : State) (x : CoreId) (c : Core) (h : c.activity = (s.core x).activity) :
    (s.setCore x c).activity = s.activity := by
  cases x <;> simp_all [State.activity, State.setCore, State.core]

@[simp] theorem activity_gp (c : Core) (l : List GpCounter) : Core.activity { c with gp := l } = c.activity := rfl

@[simp] theorem activity_setFixedCtr (c : Core) (f : FixedId) (v : FixedCounter) :
    (c.setFixedCtr f v).activity = c.activity := by cases f <;> rfl

/-! ## `addTo` -/

@[simp] theorem addTo_zero (s : State) (c : CounterId) : s.addTo c 0 = s := rfl

/-- Everything `addTo` does on a general-purpose counter that exists. -/
theorem addTo_gp (s : State) (x : CoreId) (k n : Nat) (g : GpCounter) (hg : (s.core x).gp[k]? = some g) (hn : n ≠ 0) :
    s.addTo (.gp x k) n =
      (s.setCore x { s.core x with gp := (s.core x).gp.set k (s.bumpGp g n) }).drawApprox := by
  simp [State.addTo, hn, hg]

/-- `addTo` does nothing on a general-purpose counter that does not exist. -/
theorem addTo_gp_none (s : State) (x : CoreId) (k n : Nat) (hg : (s.core x).gp[k]? = none) :
    s.addTo (.gp x k) n = s := by
  simp [State.addTo, hg]

/-- Everything `addTo` does on a fixed-function counter. -/
theorem addTo_fixed (s : State) (x : CoreId) (f : FixedId) (n : Nat) (hn : n ≠ 0) :
    s.addTo (.fixed x f) n =
      (s.setCore x ((s.core x).setFixedCtr f (s.bumpFixed ((s.core x).fixedCtr f) n))).drawApprox := by
  simp [State.addTo, hn]

/-- Whatever `addTo` does, it is one of three things. -/
theorem addTo_cases (s : State) (c : CounterId) (n : Nat) :
    s.addTo c n = s ∨
    (∃ x k g, c = .gp x k ∧ (s.core x).gp[k]? = some g ∧ n ≠ 0 ∧
      s.addTo c n = (s.setCore x { s.core x with gp := (s.core x).gp.set k (s.bumpGp g n) }).drawApprox) ∨
    (∃ x f, c = .fixed x f ∧ n ≠ 0 ∧
      s.addTo c n = (s.setCore x ((s.core x).setFixedCtr f (s.bumpFixed ((s.core x).fixedCtr f) n))).drawApprox) := by
  by_cases hn : n = 0
  · exact .inl (by subst hn; rfl)
  · cases c with
    | gp x k =>
      cases hg : (s.core x).gp[k]? with
      | none => exact .inl (addTo_gp_none s x k n hg)
      | some g => exact .inr (.inl ⟨x, k, g, rfl, hg, hn, addTo_gp s x k n g hg hn⟩)
    | fixed x f => exact .inr (.inr ⟨x, f, rfl, hn, addTo_fixed s x f n hn⟩)

/-- `addTo` touches nothing but counters and the number of free values drawn. -/
@[simp] theorem activity_addTo (s : State) (c : CounterId) (n : Nat) : (s.addTo c n).activity = s.activity := by
  obtain h | ⟨x, k, g, -, -, -, h⟩ | ⟨x, f, -, -, h⟩ := addTo_cases s c n <;> rw [h]
  · rw [activity_drawApprox]; exact activity_setCore s x _ (activity_gp _ _)
  · rw [activity_drawApprox]; exact activity_setCore s x _ (activity_setFixedCtr _ _ _)

@[simp] theorem addTo_params (s : State) (c : CounterId) (n : Nat) : (s.addTo c n).params = s.params := by
  have h := congrArg State.params (activity_addTo s c n); exact h

@[simp] theorem addTo_l2 (s : State) (c : CounterId) (n : Nat) : (s.addTo c n).l2 = s.l2 := by
  have h := congrArg State.l2 (activity_addTo s c n); exact h

@[simp] theorem addTo_bus (s : State) (c : CounterId) (n : Nat) : (s.addTo c n).bus = s.bus := by
  have h := congrArg State.bus (activity_addTo s c n); exact h

@[simp] theorem addTo_bnrLeft (s : State) (c : CounterId) (n : Nat) : (s.addTo c n).bnrLeft = s.bnrLeft := by
  have h := congrArg State.bnrLeft (activity_addTo s c n); exact h

@[simp] theorem addTo_snoopStallLeft (s : State) (c : CounterId) (n : Nat) : (s.addTo c n).snoopStallLeft = s.snoopStallLeft := by
  have h := congrArg State.snoopStallLeft (activity_addTo s c n); exact h

@[simp] theorem addTo_heldBack (s : State) (c : CounterId) (n : Nat) : (s.addTo c n).heldBack = s.heldBack := by
  have h := congrArg State.heldBack (activity_addTo s c n); exact h

@[simp] theorem addTo_thermal (s : State) (c : CounterId) (n : Nat) : (s.addTo c n).thermal = s.thermal := by
  have h := congrArg State.thermal (activity_addTo s c n); exact h

@[simp] theorem addTo_tsc (s : State) (c : CounterId) (n : Nat) : (s.addTo c n).tsc = s.tsc := by
  have h := congrArg State.tsc (activity_addTo s c n); exact h

@[simp] theorem addTo_refCredit (s : State) (c : CounterId) (n : Nat) : (s.addTo c n).refCredit = s.refCredit := by
  have h := congrArg State.refCredit (activity_addTo s c n); exact h

@[simp] theorem addTo_now (s : State) (c : CounterId) (n : Nat) : (s.addTo c n).now = s.now := by
  have h := congrArg State.now (activity_addTo s c n); exact h

@[simp] theorem addTo_moments (s : State) (c : CounterId) (n : Nat) : (s.addTo c n).moments = s.moments := by
  have h := congrArg State.moments (activity_addTo s c n); exact h

@[simp] theorem addTo_turn (s : State) (c : CounterId) (n : Nat) : (s.addTo c n).turn = s.turn := by
  have h := congrArg State.turn (activity_addTo s c n); exact h

@[simp] theorem addTo_queue (s : State) (c : CounterId) (n : Nat) : (s.addTo c n).queue = s.queue := by
  have h := congrArg State.queue (activity_addTo s c n); exact h

@[simp] theorem addTo_readout (s : State) (c : CounterId) (n : Nat) : (s.addTo c n).readout = s.readout := by
  have h := congrArg State.readout (activity_addTo s c n); exact h

/-- `addTo` keeps the number of general-purpose counters. -/
@[simp] theorem addTo_gp_length (s : State) (c : CounterId) (n : Nat) (y : CoreId) :
    ((s.addTo c n).core y).gp.length = (s.core y).gp.length := by
  obtain h | ⟨x, k, g, -, -, -, h⟩ | ⟨x, f, -, -, h⟩ := addTo_cases s c n <;> rw [h]
  · by_cases hy : y = x
    · subst hy; simp
    · simp [setCore_core_other s _ hy]
  · by_cases hy : y = x
    · subst hy; simp
    · simp [setCore_core_other s _ hy]

/-! ## How a meaning counts -/

/-- The shape of every outcome of a meaning: the counter being served gains something, or nothing changes. -/
def Serves (s : State) (o : Host.Outcome State Fault Refusal) : Prop :=
  o = .next s ∨ ∃ c rest n, s.turn = c :: rest ∧ o = .next (s.addTo c n)

/-- What `countGp` does when a general-purpose counter is served. -/
theorem countGp_served (s : State) (w : CoreId → Nat) {x : CoreId} {k : Nat} {rest : List CounterId}
    (h : s.turn = .gp x k :: rest) : countGp s w = .next (s.addTo (.gp x k) (w x)) := by
  simp [countGp, h]

/-- What `countQualified` does when a general-purpose counter is served. -/
theorem countQualified_served (s : State) (qs : List Qualifier) (u : Byte) (w : Settings → CoreId → Nat) {x : CoreId}
    {k : Nat} {rest : List CounterId} (h : s.turn = .gp x k :: rest) {q : Settings}
    (hq : decodeSettings s.params qs u = some q) :
    countQualified s qs u w = .next (s.addTo (.gp x k) (w q x)) := by
  simp [countQualified, hq, countGp, h]

/-- `countQualified` counts nothing under a unit mask that no table accepts. -/
theorem countQualified_unlisted (s : State) (qs : List Qualifier) (u : Byte) (w : Settings → CoreId → Nat)
    (hq : decodeSettings s.params qs u = none) : countQualified s qs u w = .next s := by
  simp [countQualified, hq]

/-- What `countFixed` does when its counter is served. -/
theorem countFixed_served (s : State) (f : FixedId) (w : CoreId → Nat) {x : CoreId} {rest : List CounterId}
    (h : s.turn = .fixed x f :: rest) : countFixed s f w = .next (s.addTo (.fixed x f) (w x)) := by
  simp [countFixed, h]

theorem countGp_serves (s : State) (w : CoreId → Nat) : Serves s (countGp s w) := by
  unfold countGp
  split
  · rename_i x k rest h; exact .inr ⟨_, rest, _, h, rfl⟩
  · exact .inl rfl

theorem countQualified_serves (s : State) (qs : List Qualifier) (u : Byte) (w : Settings → CoreId → Nat) :
    Serves s (countQualified s qs u w) := by
  unfold countQualified
  split
  · exact countGp_serves s _
  · exact .inl rfl

theorem countFixed_serves (s : State) (f : FixedId) (w : CoreId → Nat) : Serves s (countFixed s f w) := by
  unfold countFixed
  split
  · rename_i x g rest h
    split
    · exact .inr ⟨_, rest, _, h, rfl⟩
    · exact .inl rfl
  · exact .inl rfl

end Sys2Proof.Machine
end

