-- ==== Sys2Proof/Laws/Exec.lean ====
section
/-! SUPPORT. Laws/Exec.lean: what `exec` and `step` can do, said once. -/

namespace Sys2Proof.Machine

/-- Every instruction serves the counter whose turn it is, or changes nothing. -/
theorem exec_serves (i : Instr) (s : State) : Serves s (exec i s) := by
  cases i <;> first
    | exact countGp_serves s _
    | exact countQualified_serves s _ _ _
    | exact countFixed_serves s _ _

/-- `exec` always answers a next state with the same activity. -/
theorem exec_next (i : Instr) (s : State) : ∃ t, exec i s = .next t ∧ t.activity = s.activity := by
  obtain h | ⟨c, rest, n, -, h⟩ := exec_serves i s
  · exact ⟨s, h, rfl⟩
  · exact ⟨_, h, activity_addTo s c n⟩

/-- What a step does: it serves a counter, stays where the history has ended, or accepts an input. -/
theorem step_cases (s : State) :
    (∃ c rest, s.turn = c :: rest ∧ s.fetch c = none ∧ step s = .next (s.served rest)) ∨
    (∃ c rest i, s.turn = c :: rest ∧ s.fetch c = some i ∧ exec i s = .next s ∧ step s = .next (s.served rest)) ∨
    (∃ c rest i n, s.turn = c :: rest ∧ s.fetch c = some i ∧ exec i s = .next (s.addTo c n) ∧
      step s = .next ((s.addTo c n).served rest)) ∨
    (s.turn = [] ∧ s.queue = [] ∧ step s = .next s) ∨
    (∃ i rest, s.turn = [] ∧ s.queue = i :: rest ∧ step s = { s with queue := rest }.accept i) := by
  cases ht : s.turn with
  | nil =>
    cases hq : s.queue with
    | nil => exact .inr (.inr (.inr (.inl ⟨rfl, rfl, by simp [step, ht, hq]⟩)))
    | cons i rest => exact .inr (.inr (.inr (.inr ⟨i, rest, rfl, rfl, by simp [step, ht, hq]⟩)))
  | cons c rest =>
    cases hf : s.fetch c with
    | none => exact .inl ⟨c, rest, rfl, hf, by simp [step, ht, hf]⟩
    | some i =>
      obtain h | ⟨c', rest', n, h', h⟩ := exec_serves i s
      · exact .inr (.inl ⟨c, rest, i, rfl, hf, h, by simp [step, ht, hf, h]⟩)
      · rw [ht] at h'
        obtain ⟨rfl, rfl⟩ : c = c' ∧ rest = rest' := by simpa using h'
        exact .inr (.inr (.inl ⟨c, rest, i, n, rfl, hf, h, by simp [step, ht, hf, h]⟩))

end Sys2Proof.Machine
end

