-- ==== Sys2Proof/Laws/History.lean ====
section
/-! SUPPORT. Laws/History.lean: what the operations on the pipeline of a core can do, said once: which fields each of them
writes, and that each keeps the bounds of the pipeline. -/

namespace Sys2Proof.Machine

/-- The fields of a core that the operations on its pipeline write. -/
def Core.SamePipeline (c d : Core) : Prop :=
  c.inFlight = d.inFlight ∧ c.retiredStores = d.retiredStores ∧ c.storeBuffer = d.storeBuffer ∧ c.draining = d.draining ∧
    c.fences = d.fences ∧ c.busQueue = d.busQueue

/-- Two cores agree in every field but those that the operations on the pipeline write. -/
def Core.SameElsewhere (c d : Core) : Prop :=
  { d with
    inFlight := c.inFlight, retiredStores := c.retiredStores, storeBuffer := c.storeBuffer, draining := c.draining
    fences := c.fences, blocked := c.blocked, busQueue := c.busQueue, regs := c.regs } = c

/-- The bounds of the pipeline read nothing else of a core. -/
theorem Core.pipelineWf_congr {c d : Core} {p : Params} (h : c.SamePipeline d) (hd : d.pipelineWf p) :
    c.pipelineWf p := by
  obtain ⟨h1, hr, h2, h3, h4, h5⟩ := h
  have hu : c.uncommitted = d.uncommitted := by rw [Core.uncommitted, hr, h2, Core.uncommitted]
  exact ⟨h1 ▸ hd.1, h1 ▸ hd.2, h1 ▸ hd.3, h1 ▸ hd.4, hu ▸ h1 ▸ hd.5, h1 ▸ h4 ▸ hd.6, h3 ▸ h2 ▸ hd.7, h5 ▸ hd.8,
    h1 ▸ h4 ▸ hd.9, h1 ▸ hd.10⟩

/-- What entering the pipeline does: nothing, or one instruction more, where there is room. -/
theorem Core.enter_cases (c : Core) (p : Params) (load store : Bool) :
    (c.canEnter p load store = false ∧ c.enter p load store = c) ∨
    (c.canEnter p load store = true ∧ c.enter p load store = { c with
      inFlight := ⟨c.inFlight.retirement + 1, c.inFlight.execution + 1, c.inFlight.loads + load.toNat,
        c.inFlight.stores + store.toNat⟩ }) := by
  unfold Core.enter
  cases h : c.canEnter p load store
  · exact .inl ⟨rfl, rfl⟩
  · exact .inr ⟨rfl, rfl⟩

theorem Core.enter_wf {c : Core} {p : Params} (load store : Bool) (h : c.pipelineWf p) :
    (c.enter p load store).pipelineWf p := by
  obtain ⟨-, e⟩ | ⟨hc, e⟩ := c.enter_cases p load store <;> rw [e]
  · exact h
  · obtain ⟨h1, h2, h3, h4, h5, h6, h7, h8, h9, h10⟩ := h
    simp only [Core.canEnter, Bool.and_eq_true, Bool.or_eq_true, decide_eq_true_eq, Bool.not_eq_true'] at hc
    obtain ⟨⟨⟨⟨⟨⟨-, g1⟩, g2⟩, g3⟩, g4⟩, -⟩, -⟩ := hc
    refine ⟨g1, g2, ?_, ?_, Nat.le_add_right_of_le h5, fun m hm => ⟨(h6 m hm).1, Nat.le_add_right_of_le (h6 m hm).2⟩,
      h7, h8, Nat.le_succ_of_le h9, Nat.succ_le_succ h10⟩
    · cases load
      · exact h3
      · exact g3.resolve_left Bool.noConfusion
    · cases store
      · exact h4
      · exact g4.resolve_left Bool.noConfusion

theorem Core.executed_wf {c : Core} {p : Params} (h : c.pipelineWf p) : c.executed.pipelineWf p := by
  unfold Core.executed
  split
  · exact h
  · rename_i hc
    simp only [Core.holdsExecution, Bool.or_eq_true, decide_eq_true_eq, not_or, Nat.not_le] at hc
    exact ⟨h.1, Nat.sub_le_of_le_add (Nat.le_add_right_of_le h.2), h.3, h.4, h.5, h.6, h.7, h.8,
      Nat.le_pred_of_lt hc.2, Nat.sub_le_of_le_add (Nat.le_add_right_of_le h.10)⟩

/-- Whoever still waits, waits for at least one store, and for no more than it is given. -/
theorem fences_filter {k : Nat} {f : List Nat} (h : ∀ n ∈ f, n ≤ k) : ∀ n ∈ f.filter (0 < ·), 0 < n ∧ n ≤ k := by
  intro n hn
  obtain ⟨hf, hp⟩ := List.mem_filter.1 hn
  exact ⟨of_decide_eq_true hp, h n hf⟩

theorem Core.abandoned_wf {c : Core} {p : Params} (n : InFlight) (k : Nat) (l : List DataRef) (h : c.pipelineWf p) :
    (c.abandoned n k l).pipelineWf p := by
  refine ⟨Nat.sub_le_of_le_add (Nat.le_add_right_of_le h.1),
    Nat.le_trans (Nat.min_le_left ..) (Nat.sub_le_of_le_add (Nat.le_add_right_of_le h.2)),
    Nat.sub_le_of_le_add (Nat.le_add_right_of_le h.3),
    Nat.max_le.2 ⟨Nat.sub_le_of_le_add (Nat.le_add_right_of_le h.4), Nat.le_trans h.5 h.4⟩,
    Nat.le_max_right _ _, fences_filter fun _ hm => ?_, h.7, h.8, Nat.le_trans (List.length_filter_le ..) ?_,
    Nat.min_le_right _ _⟩
  · obtain ⟨j, -, rfl⟩ := List.mem_map.1 hm
    exact Nat.min_le_left _ _
  · rw [List.length_map, List.length_drop]
    show _ ≤ min (c.inFlight.execution - n.execution) (c.inFlight.retirement - n.retirement)
    omega

/-- What a store that starts to wait does: the oldest of those that have retired, where there is one and the buffer does
not drain, goes to the end of the store buffer. -/
theorem Core.storeWaits_cases (c : Core) :
    ((c.draining ≠ none ∨ c.retiredStores = []) ∧ c.storeWaits = c) ∨
    ∃ st rest, c.draining = none ∧ c.retiredStores = st :: rest ∧
      c.storeWaits = { c with storeBuffer := c.storeBuffer ++ [st], retiredStores := rest } := by
  cases hd : c.draining with
  | some _ => exact .inl ⟨.inl nofun, by simp [Core.storeWaits, hd]⟩
  | none => cases hr : c.retiredStores with
    | nil => exact .inl ⟨.inr rfl, by simp [Core.storeWaits, hd, hr]⟩
    | cons st rest => exact .inr ⟨st, rest, rfl, rfl, by simp [Core.storeWaits, hd, hr]⟩

theorem Core.storeWaits_wf {c : Core} {p : Params} (h : c.pipelineWf p) : c.storeWaits.pipelineWf p := by
  obtain ⟨-, e⟩ | ⟨st, rest, -, hr, e⟩ := c.storeWaits_cases <;> rw [e]
  · exact h
  · have h5 := h.buffered
    rw [Core.uncommitted, hr] at h5
    exact ⟨h.1, h.2, h.3, h.4, by simp [Core.uncommitted] at h5 ⊢; omega,
      h.6, fun _ => by simp, h.8, h.9, h.10⟩

/-- What a commit does: nothing where the store buffer is empty, otherwise its oldest store leaves it and the pipeline,
the loads it blocks are free and every instruction waits for one store less. -/
theorem Core.storeCommits_cases (c : Core) :
    (c.storeBuffer = [] ∧ c.storeCommits = c) ∨
    ∃ st rest, c.storeBuffer = st :: rest ∧ c.storeCommits = { c with
      storeBuffer := rest, inFlight := { c.inFlight with stores := c.inFlight.stores - 1 }
      fences := (c.fences.map (· - 1)).filter (0 < ·), draining := if rest.isEmpty then none else c.draining
      blocked := { c.blocked with untilCommit := c.blocked.untilCommit.filter (·.2 ≠ st) } } := by
  cases h : c.storeBuffer with
  | nil => exact .inl ⟨rfl, by simp [Core.storeCommits, h]⟩
  | cons st rest => exact .inr ⟨st, rest, rfl, by simp [Core.storeCommits, h]⟩

theorem Core.storeCommits_wf {c : Core} {p : Params} (h : c.pipelineWf p) : c.storeCommits.pipelineWf p := by
  obtain ⟨-, e⟩ | ⟨st, rest, hb, e⟩ := c.storeCommits_cases <;> rw [e]
  · exact h
  · have h5 := h.buffered
    rw [Core.uncommitted, hb] at h5
    refine ⟨h.1, h.2, h.3, Nat.sub_le_of_le_add (Nat.le_add_right_of_le h.4), ?_, fences_filter fun _ hm => ?_, ?_, h.8,
      Nat.le_trans (List.length_filter_le ..) (by rw [List.length_map]; exact h.9), h.10⟩
    · simp only [Core.uncommitted, List.length_cons] at h5 ⊢
      omega
    · obtain ⟨j, hj, rfl⟩ := List.mem_map.1 hm
      exact Nat.sub_le_sub_right (h.fenced j hj).2 1
    · cases rest <;> simp

theorem Core.drain_wf {c : Core} {p : Params} (cause : DrainCause) (h : c.pipelineWf p) :
    (c.drain cause).pipelineWf p := by
  unfold Core.drain
  split
  · exact h
  · rename_i hn
    exact ⟨h.1, h.2, h.3, h.4, h.5, h.6, fun _ => by simpa using hn, h.8, h.9, h.10⟩

theorem Core.fence_wf {c : Core} {p : Params} (h : c.pipelineWf p) : c.fence.pipelineWf p := by
  unfold Core.fence
  split
  · exact h
  · rename_i hn
    simp only [Bool.or_eq_true, decide_eq_true_eq, not_or, Nat.not_le] at hn
    refine ⟨h.1, h.2, h.3, h.4, h.5, fun m hm => ?_, h.7, h.8, hn.2, h.10⟩
    obtain rfl | hm := List.mem_cons.1 hm
    · exact ⟨Nat.pos_of_ne_zero hn.1, Nat.le_refl _⟩
    · exact h.fenced m hm

theorem Core.retired_wf {c : Core} {p : Params} {u : RetiredUop} (hu : c.canRetire u) (h : c.pipelineWf p) :
    (c.retired u).pipelineWf p := by
  refine ⟨Nat.sub_le_of_le_add (Nat.le_add_right_of_le h.1), h.2, Nat.sub_le_of_le_add (Nat.le_add_right_of_le h.3), h.4,
    ?_, h.6, h.7, h.8, h.9, Nat.le_sub_of_add_le (Nat.add_comm .. ▸ hu.executed)⟩
  have h5 := h.buffered
  simp only [Core.uncommitted, Core.retired, List.length_take] at h5 ⊢
  omega

theorem Core.requestIo_wf {c : Core} {p : Params} (h : c.pipelineWf p) : c.requestIo.pipelineWf p := by
  unfold Core.requestIo
  split
  · exact h
  · exact ⟨h.1, h.2, h.3, h.4, h.5, h.6, h.7, fun n => by simpa using h.busSets n, h.9, h.10⟩

/-- A queue that has no entry for a set has room for one. -/
theorem Core.queueLine_wf {c : Core} {p : Params} (n : Nat) (hc : c.canQueue n = true) (h : c.pipelineWf p) :
    { c with busQueue := c.busQueue ++ [.line n] : Core }.pipelineWf p := by
  refine ⟨h.1, h.2, h.3, h.4, h.5, h.6, h.7, fun m => ?_, h.9, h.10⟩
  have hb := h.busSets m
  by_cases hm : m = n
  · subst hm
    simp only [Core.canQueue, Bool.and_eq_true, Bool.not_eq_true', List.contains_eq_mem, decide_eq_false_iff_not] at hc
    simp [List.count_eq_zero_of_not_mem hc.2]
  · have hne : (QueueEntry.line n == QueueEntry.line m) = false := by simpa using fun e => hm e.symm
    simpa [List.count_singleton, hne] using hb

theorem Core.dequeue_wf {c : Core} {p : Params} (e : QueueEntry) (h : c.pipelineWf p) :
    { c with busQueue := c.busQueue.erase e : Core }.pipelineWf p :=
  ⟨h.1, h.2, h.3, h.4, h.5, h.6, h.7,
    fun n => Nat.le_trans (List.Sublist.count_le _ List.erase_sublist) (h.busSets n), h.9, h.10⟩

/-- None of the operations on the pipeline writes anything else of a core. -/
theorem Core.enter_elsewhere (c : Core) (p : Params) (l st : Bool) : (c.enter p l st).SameElsewhere c := by
  obtain ⟨-, e⟩ | ⟨-, e⟩ := c.enter_cases p l st <;> rw [e] <;> rfl

theorem Core.abandoned_elsewhere (c : Core) (n : InFlight) (k : Nat) (l : List DataRef) :
    (c.abandoned n k l).SameElsewhere c := rfl

theorem Core.executed_elsewhere (c : Core) : c.executed.SameElsewhere c := by
  unfold Core.executed; split <;> rfl

theorem Core.fence_elsewhere (c : Core) : c.fence.SameElsewhere c := by
  unfold Core.fence; split <;> rfl

theorem Core.storeWaits_elsewhere (c : Core) : c.storeWaits.SameElsewhere c := by
  obtain ⟨-, e⟩ | ⟨_, _, -, -, e⟩ := c.storeWaits_cases <;> rw [e] <;> rfl

theorem Core.storeCommits_elsewhere (c : Core) : c.storeCommits.SameElsewhere c := by
  obtain ⟨-, e⟩ | ⟨_, _, -, e⟩ := c.storeCommits_cases <;> rw [e] <;> rfl

theorem Core.drain_elsewhere (c : Core) (cause : DrainCause) : (c.drain cause).SameElsewhere c := by
  unfold Core.drain; split <;> rfl

theorem Core.retired_elsewhere (c : Core) (u : RetiredUop) : (c.retired u).SameElsewhere c := rfl

theorem Core.requestIo_elsewhere (c : Core) : c.requestIo.SameElsewhere c := by
  unfold Core.requestIo; split <;> rfl

/-! ## Changing one core, and what retirement does -/

@[simp] theorem modCore_core (s : State) (x : CoreId) (f : Core → Core) : (s.modCore x f).core x = f (s.core x) := by
  simp [State.modCore]

theorem modCore_core_other (s : State) (x : CoreId) (f : Core → Core) {y : CoreId} (h : y ≠ x) :
    (s.modCore x f).core y = s.core y := by simp [State.modCore, setCore_core_other s _ h]

@[simp] theorem modCore_params (s : State) (x : CoreId) (f : Core → Core) : (s.modCore x f).params = s.params := by
  simp [State.modCore]

@[simp] theorem modCore_l2 (s : State) (x : CoreId) (f : Core → Core) : (s.modCore x f).l2 = s.l2 := by
  simp [State.modCore]

@[simp] theorem modCore_bus (s : State) (x : CoreId) (f : Core → Core) : (s.modCore x f).bus = s.bus := by
  simp [State.modCore]

@[simp] theorem modCore_queue (s : State) (x : CoreId) (f : Core → Core) : (s.modCore x f).queue = s.queue := by
  simp [State.modCore]

@[simp] theorem modCore_now (s : State) (x : CoreId) (f : Core → Core) : (s.modCore x f).now = s.now := by
  simp [State.modCore]

@[simp] theorem modCore_turn (s : State) (x : CoreId) (f : Core → Core) : (s.modCore x f).turn = s.turn := by
  simp [State.modCore]

@[simp] theorem modCore_moments (s : State) (x : CoreId) (f : Core → Core) : (s.modCore x f).moments = s.moments := by
  simp [State.modCore]

/-- Which counters are counting is read of the counters of the cores alone. -/
theorem listening_modCore (s : State) (x : CoreId) (f : Core → Core) (hg : (f (s.core x)).gp = (s.core x).gp)
    (hs : (f (s.core x)).fixedStarted = (s.core x).fixedStarted) : (s.modCore x f).listening = s.listening := by
  have hl : ∀ y, ((s.modCore x f).core y).listening y = (s.core y).listening y := by
    intro y
    by_cases h : y = x
    · subst h; simp [Core.listening, hg, hs]
    · rw [modCore_core_other s x f h]
  simp only [State.listening, State.cores, modCore_params, hl]

/-- Where locked accesses begin, the core is as before but for the lines it locks. -/
theorem startLocks_core (s : State) (x : CoreId) (l : List DataRef) : (s.startLocks x l).core x =
    { s.core x with lockedLines := (l.filter fun a => !locksBus s.params a).map (fun a => lineOf s.params a.bytes.addr) ++
      (s.core x).lockedLines } := by
  cases x <;> rfl

/-- A micro-op that cannot retire changes nothing. -/
theorem retire_held {s : State} {x : CoreId} {u : RetiredUop} (h : (s.core x).holdsRetirement u = true) :
    s.retire x u = s := by simp [State.retire, h]

/-- What the retirement of a micro-op makes of its core. -/
theorem retire_core {s : State} {x : CoreId} {u : RetiredUop} (h : (s.core x).holdsRetirement u = false) :
    (s.retire x u).core x =
    { (s.core x).retired u with
      lockedLines := ((u.completes.flatMap RetiredInst.locks).filter fun a => !locksBus s.params a).map
        (fun a => lineOf s.params a.bytes.addr) ++ (s.core x).lockedLines } := by
  simp [State.retire, h, startLocks_core, Core.retired]

/-- What the retirement of a micro-op makes of the bus and of the history: LOCK asserted for its locked accesses, the
references executed at retirement to come next. -/
theorem retire_bus_queue {s : State} {x : CoreId} {u : RetiredUop} (h : (s.core x).holdsRetirement u = false) :
    (s.retire x u).bus = { s.bus with
      lock := ((u.completes.flatMap RetiredInst.locks).filter (locksBus s.params)).map
        (fun _ => (.thisProcessor, some x)) ++ s.bus.lock } ∧
    (s.retire x u).queue = (u.completes.flatMap fun r => r.atRetirement.map (Input.retiredRef x)) ++ s.queue ∧
    (s.retire x u).now = .found x (.retired u) := by
  simp [State.retire, h, State.startLocks]

/-! ## What waits -/

/-- Execution goes on exactly while the store buffer does not drain. -/
theorem Core.executionHeld_eq_false {c : Core} : c.executionHeld = false ↔ c.draining = none := by
  simp [Core.executionHeld]

/-- A load waits for a commit exactly where it is listed as blocked by a store. -/
theorem Core.waitsForCommit_iff {c : Core} {a : DataRef} :
    c.waitsForCommit a = true ↔ a.write = false ∧ ∃ st, (a.bytes, st) ∈ c.blocked.untilCommit := by
  simp [Core.waitsForCommit]

/-- A micro-op is held exactly where it cannot retire. -/
theorem Core.holdsRetirement_eq_false {c : Core} {u : RetiredUop} :
    c.holdsRetirement u = false ↔ c.canRetire u := by
  have hb : u.completes.any (·.blockedIn c) = false ↔ ∀ r ∈ u.completes, ∀ a ∈ r.atRetirement ++ r.locks,
      a.write = false → ∀ st, (a.bytes, st) ∉ c.blocked.untilCommit := by
    simp only [RetiredInst.blockedIn, List.any_eq_false, List.any_eq_true, not_exists, not_and,
      Core.waitsForCommit_iff]
  have hd : (c.executionHeld && u.completes.any (·.executesAtRetirement)) = false ↔
      c.draining = none ∨ ∀ r ∈ u.completes, r.atRetirement = [] ∧ r.locks = [] := by
    rw [Bool.and_eq_false_iff, Core.executionHeld_eq_false]
    simp [RetiredInst.executesAtRetirement]
  have hf : c.unexecutedRetire u = false ↔ u.completes.length + c.inFlight.execution ≤ c.inFlight.retirement := by
    simp [Core.unexecutedRetire]
  rw [Core.holdsRetirement, Bool.or_eq_false_iff, Bool.or_eq_false_iff, hd, hb, hf]
  exact ⟨fun h => ⟨h.1.1, h.1.2, h.2⟩, fun h => ⟨⟨h.1, h.2⟩, h.3⟩⟩

/-- What retires leaves every instruction that waits for previous stores in the pipe (rule R73). -/
theorem Core.canRetire_fences {c : Core} {p : Params} {u : RetiredUop} (hu : c.canRetire u) (h : c.pipelineWf p) :
    u.completes.length + c.fences.length ≤ c.inFlight.retirement :=
  Nat.le_trans (Nat.add_le_add_left h.unexecuted _) hu.executed

/-- Instructions waiting for execution can execute exactly while the store buffer does not drain and one of them waits
for no previous store. -/
theorem Core.holdsExecution_eq_false {c : Core} :
    c.holdsExecution = false ↔ c.draining = none ∧ c.fences.length < c.inFlight.execution := by
  simp [Core.holdsExecution, Core.executionHeld_eq_false]

/-- What a reference made at retirement does: nothing while it has to wait, the reference otherwise. -/
theorem makeRetiredRef_cases (s : State) (x : CoreId) (a : DataRef) :
    ((s.core x).holdsLoad a = true ∧ s.makeRetiredRef x a = s) ∨
    ((s.core x).holdsLoad a = false ∧ s.makeRetiredRef x a = s.performRef x a) := by
  cases h : (s.core x).holdsLoad a <;> simp [State.makeRetiredRef, h]

/-- What a transition can change: frequency, voltage, those to return to, and the C state of its core, nothing else of
the core, of another core or of the L2 cache. -/
theorem makeTransition_keeps (s : State) (x : CoreId) (t : Transition) :
    (s.makeTransition x t).core x = (s.core x).afterTransition t ∧
    (s.core x).afterTransition t = { s.core x with
      frequency := ((s.core x).afterTransition t).frequency, voltage := ((s.core x).afterTransition t).voltage
      normalFrequency := ((s.core x).afterTransition t).normalFrequency
      normalVoltage := ((s.core x).afterTransition t).normalVoltage
      cState := ((s.core x).afterTransition t).cState } ∧
    (∀ y, y ≠ x → (s.makeTransition x t).core y = s.core y) ∧ (s.makeTransition x t).l2 = s.l2 :=
  ⟨by cases x <;> rfl, rfl, fun _ h => modCore_core_other s x _ h, modCore_l2 s x _⟩

/-- What a change of the state of an L2 line does: where a modified line becomes invalid, an implicit writeback follows;
otherwise just that. -/
theorem setL2State_cases (s : State) (line : Nat) (st : LineState) :
    (st = .i ∧ lineState s.l2 line = .m ∧ s.setL2State line st = { s with
      l2 := setLine s.l2 line .i
      queue := .busTrans ⟨.implicitWriteback, .thisProcessor, none, true, s.unstated .writebackNeedsSnoop⟩ :: s.queue }) ∨
    ((st ≠ .i ∨ lineState s.l2 line ≠ .m) ∧ s.setL2State line st = { s with l2 := setLine s.l2 line st }) := by
  by_cases h : st = .i <;> by_cases h' : lineState s.l2 line = .m <;>
    simp [State.setL2State, State.followedBy, isModified, h, h']

/-- What sending a load does: nothing while execution is held, a moment otherwise. -/
theorem sendLoad_cases (s : State) (x : CoreId) (b : Access) :
    ((s.core x).executionHeld = true ∧ s.sendLoad x b = s) ∨
    ((s.core x).executionHeld = false ∧
      s.sendLoad x b = s.begin (.found x (.loadSent (s.hitsPrefetch x b)))) := by
  cases h : (s.core x).executionHeld <;> simp [State.sendLoad, h]

/-- Whether a load hits a software prefetch: as each of its lines says where they agree, otherwise a free value. -/
theorem hitsPrefetch_cases (s : State) (x : CoreId) (b : Access) :
    ((s.core x).prefetches (lineOf s.params b.addr) = (s.core x).prefetches (lineOf s.params b.lastByte) ∧
      s.hitsPrefetch x b = (s.core x).prefetches (lineOf s.params b.addr)) ∨
    ((s.core x).prefetches (lineOf s.params b.addr) ≠ (s.core x).prefetches (lineOf s.params b.lastByte) ∧
      s.hitsPrefetch x b = s.unstated .splitLoadHitsPrefetch) := by
  by_cases h : (s.core x).prefetches (lineOf s.params b.addr) = (s.core x).prefetches (lineOf s.params b.lastByte)
  · exact .inl ⟨h, if_pos h⟩
  · exact .inr ⟨h, if_neg h⟩

theorem Core.prefetches_iff (c : Core) (line : Nat) :
    c.prefetches line = true ↔ ∃ k, (k, line) ∈ c.prefetching := by
  simp [Core.prefetches]

/-- Everything a pipeline restart does: its moment, and in its core what an abandonment does. -/
theorem restart_core (s : State) (x : CoreId) (k : Nuke) (n : InFlight) (f : Nat) (l : List DataRef) :
    (s.restart x k n f l).core x = (s.core x).abandoned (k.throws n) f l ∧
      (s.restart x k n f l).now = .found x (.nuke k) := by
  simp [State.restart]

/-- The moment of a restart is served to the counters that were counting. -/
theorem restart_turn (s : State) (x : CoreId) (k : Nuke) (n : InFlight) (f : Nat) (l : List DataRef) :
    (s.restart x k n f l).turn = s.listening := listening_modCore s x _ rfl rfl

/-- A restart changes no other core. -/
theorem restart_core_other (s : State) {x y : CoreId} (k : Nuke) (n : InFlight) (f : Nat) (l : List DataRef)
    (h : y ≠ x) : (s.restart x k n f l).core y = s.core y := by
  simp [State.restart, modCore_core_other s _ _ h]

/-- What fetching does: nothing while the instruction queue is full, a moment otherwise. -/
theorem fetchInst_cases (s : State) (x : CoreId) (f : Fetch) :
    ((s.core x).pipe.instQueueFull = true ∧ s.fetchInst x f = s) ∨
    ((s.core x).pipe.instQueueFull = false ∧
      s.fetchInst x f = s.begin (.found x (.fetch f (!(s.core x).tlb.itlb.contains f.page)))) := by
  cases h : (s.core x).pipe.instQueueFull <;> simp [State.fetchInst, h]

/-- What a reference made at execution does: nothing, a block until retirement, or the reference. -/
theorem makeRef_cases (s : State) (x : CoreId) (a : DataRef) :
    ((s.core x).holdsLoad a = true ∧ s.makeRef x a = s) ∨
    ((s.core x).holdsLoad a = false ∧ (s.core x).waitsForRetirement s.params a = true ∧
      s.makeRef x a = s.blockLoad x (.untilRetire a)) ∨
    ((s.core x).holdsLoad a = false ∧ (s.core x).waitsForRetirement s.params a = false ∧
      s.makeRef x a = s.performRef x a) := by
  cases h : (s.core x).holdsLoad a <;> cases h' : (s.core x).waitsForRetirement s.params a <;>
    simp [State.makeRef, h, h']

/-- What a change of a line's state does: an eviction where a modified line becomes invalid, otherwise just that. -/
theorem setL1dState_cases (s : State) (x : CoreId) (line : Nat) (st : LineState) :
    (st = .i ∧ lineState (s.core x).l1d line = .m ∧ s.setL1dState x line st = s.evictL1d x line) ∨
    ((st ≠ .i ∨ lineState (s.core x).l1d line ≠ .m) ∧
      s.setL1dState x line st = s.modCore x fun c => { c with l1d := setLine c.l1d line st }) := by
  by_cases h : st = .i <;> by_cases h' : lineState (s.core x).l1d line = .m <;>
    simp [State.setL1dState, isModified, h, h']

end Sys2Proof.Machine
end

