-- ==== Sys2Proof/Laws/PerInstr.lean ====
section
/-! SUPPORT. Laws/PerInstr.lean: statements about every instruction as syntax, one lemma per constructor. -/

namespace Sys2Proof.Laws

/-- An instruction and the event it names (rule R111: a row of Table A-1 is a second name of a row of Table A-3) have
one encoding, one unit of count and one answer to whether the event is architectural; the event names itself. -/
def SameEncoding.Statement (i : Instr) : Prop :=
  i.event.event = i.event ∧ encode i.event = encode i ∧ i.event.unit = i.unit ∧
    i.event.isArchitectural = i.isArchitectural

theorem SameEncoding.archUnhaltedCoreCycles : SameEncoding.Statement .archUnhaltedCoreCycles := ⟨rfl, rfl, rfl, rfl⟩

theorem SameEncoding.archUnhaltedReferenceCycles : SameEncoding.Statement .archUnhaltedReferenceCycles := ⟨rfl, rfl, rfl, rfl⟩

theorem SameEncoding.archInstructionRetired : SameEncoding.Statement .archInstructionRetired := ⟨rfl, rfl, rfl, rfl⟩

theorem SameEncoding.archLlcReference : SameEncoding.Statement .archLlcReference := ⟨rfl, rfl, rfl, rfl⟩

theorem SameEncoding.archLlcMisses : SameEncoding.Statement .archLlcMisses := ⟨rfl, rfl, rfl, rfl⟩

theorem SameEncoding.archBranchInstructionRetired : SameEncoding.Statement .archBranchInstructionRetired := ⟨rfl, rfl, rfl, rfl⟩

theorem SameEncoding.archBranchMissesRetired : SameEncoding.Statement .archBranchMissesRetired := ⟨rfl, rfl, rfl, rfl⟩

theorem SameEncoding.fixedInstrRetiredAny : SameEncoding.Statement .fixedInstrRetiredAny := ⟨rfl, rfl, rfl, rfl⟩

theorem SameEncoding.fixedCpuClkUnhaltedCore : SameEncoding.Statement .fixedCpuClkUnhaltedCore := ⟨rfl, rfl, rfl, rfl⟩

theorem SameEncoding.fixedCpuClkUnhaltedRef : SameEncoding.Statement .fixedCpuClkUnhaltedRef := ⟨rfl, rfl, rfl, rfl⟩

theorem SameEncoding.loadBlockSta : SameEncoding.Statement .loadBlockSta := ⟨rfl, rfl, rfl, rfl⟩

theorem SameEncoding.loadBlockStd : SameEncoding.Statement .loadBlockStd := ⟨rfl, rfl, rfl, rfl⟩

theorem SameEncoding.loadBlockOverlapStore : SameEncoding.Statement .loadBlockOverlapStore := ⟨rfl, rfl, rfl, rfl⟩

theorem SameEncoding.loadBlockUntilRetire : SameEncoding.Statement .loadBlockUntilRetire := ⟨rfl, rfl, rfl, rfl⟩

theorem SameEncoding.loadBlockL1d : SameEncoding.Statement .loadBlockL1d := ⟨rfl, rfl, rfl, rfl⟩

theorem SameEncoding.sbDrainCycles : SameEncoding.Statement .sbDrainCycles := ⟨rfl, rfl, rfl, rfl⟩

theorem SameEncoding.storeBlockOrder : SameEncoding.Statement .storeBlockOrder := ⟨rfl, rfl, rfl, rfl⟩

theorem SameEncoding.storeBlockSnoop : SameEncoding.Statement .storeBlockSnoop := ⟨rfl, rfl, rfl, rfl⟩

theorem SameEncoding.segmentRegLoads : SameEncoding.Statement .segmentRegLoads := ⟨rfl, rfl, rfl, rfl⟩

theorem SameEncoding.ssePreExecNta : SameEncoding.Statement .ssePreExecNta := ⟨rfl, rfl, rfl, rfl⟩

theorem SameEncoding.ssePreExecL1 : SameEncoding.Statement .ssePreExecL1 := ⟨rfl, rfl, rfl, rfl⟩

theorem SameEncoding.ssePreExecL2 : SameEncoding.Statement .ssePreExecL2 := ⟨rfl, rfl, rfl, rfl⟩

theorem SameEncoding.ssePreExecStores : SameEncoding.Statement .ssePreExecStores := ⟨rfl, rfl, rfl, rfl⟩

theorem SameEncoding.dtlbMissesAny : SameEncoding.Statement .dtlbMissesAny := ⟨rfl, rfl, rfl, rfl⟩

theorem SameEncoding.dtlbMissesMissLd : SameEncoding.Statement .dtlbMissesMissLd := ⟨rfl, rfl, rfl, rfl⟩

theorem SameEncoding.dtlbMissesL0MissLd : SameEncoding.Statement .dtlbMissesL0MissLd := ⟨rfl, rfl, rfl, rfl⟩

theorem SameEncoding.dtlbMissesMissSt : SameEncoding.Statement .dtlbMissesMissSt := ⟨rfl, rfl, rfl, rfl⟩

theorem SameEncoding.memoryDisambiguationReset : SameEncoding.Statement .memoryDisambiguationReset := ⟨rfl, rfl, rfl, rfl⟩

theorem SameEncoding.memoryDisambiguationSuccess : SameEncoding.Statement .memoryDisambiguationSuccess := ⟨rfl, rfl, rfl, rfl⟩

theorem SameEncoding.pageWalksCount : SameEncoding.Statement .pageWalksCount := ⟨rfl, rfl, rfl, rfl⟩

theorem SameEncoding.pageWalksCycles : SameEncoding.Statement .pageWalksCycles := ⟨rfl, rfl, rfl, rfl⟩

theorem SameEncoding.fpCompOpsExe : SameEncoding.Statement .fpCompOpsExe := ⟨rfl, rfl, rfl, rfl⟩

theorem SameEncoding.fpAssist : SameEncoding.Statement .fpAssist := ⟨rfl, rfl, rfl, rfl⟩

theorem SameEncoding.mul : SameEncoding.Statement .mul := ⟨rfl, rfl, rfl, rfl⟩

theorem SameEncoding.div : SameEncoding.Statement .div := ⟨rfl, rfl, rfl, rfl⟩

theorem SameEncoding.cyclesDivBusy : SameEncoding.Statement .cyclesDivBusy := ⟨rfl, rfl, rfl, rfl⟩

theorem SameEncoding.idleDuringDiv : SameEncoding.Statement .idleDuringDiv := ⟨rfl, rfl, rfl, rfl⟩

theorem SameEncoding.delayedBypassFp : SameEncoding.Statement .delayedBypassFp := ⟨rfl, rfl, rfl, rfl⟩

theorem SameEncoding.delayedBypassSimd : SameEncoding.Statement .delayedBypassSimd := ⟨rfl, rfl, rfl, rfl⟩

theorem SameEncoding.delayedBypassLoad : SameEncoding.Statement .delayedBypassLoad := ⟨rfl, rfl, rfl, rfl⟩

theorem SameEncoding.l2Ads (u : Byte) : SameEncoding.Statement (.l2Ads u) := ⟨rfl, rfl, rfl, rfl⟩

theorem SameEncoding.l2DbusBusyRd (u : Byte) : SameEncoding.Statement (.l2DbusBusyRd u) := ⟨rfl, rfl, rfl, rfl⟩

theorem SameEncoding.l2LinesIn (u : Byte) : SameEncoding.Statement (.l2LinesIn u) := ⟨rfl, rfl, rfl, rfl⟩

theorem SameEncoding.l2MLinesIn (u : Byte) : SameEncoding.Statement (.l2MLinesIn u) := ⟨rfl, rfl, rfl, rfl⟩

theorem SameEncoding.l2LinesOut (u : Byte) : SameEncoding.Statement (.l2LinesOut u) := ⟨rfl, rfl, rfl, rfl⟩

theorem SameEncoding.l2MLinesOut (u : Byte) : SameEncoding.Statement (.l2MLinesOut u) := ⟨rfl, rfl, rfl, rfl⟩

theorem SameEncoding.l2Ifetch (u : Byte) : SameEncoding.Statement (.l2Ifetch u) := ⟨rfl, rfl, rfl, rfl⟩

theorem SameEncoding.l2Ld (u : Byte) : SameEncoding.Statement (.l2Ld u) := ⟨rfl, rfl, rfl, rfl⟩

theorem SameEncoding.l2St (u : Byte) : SameEncoding.Statement (.l2St u) := ⟨rfl, rfl, rfl, rfl⟩

theorem SameEncoding.l2Lock (u : Byte) : SameEncoding.Statement (.l2Lock u) := ⟨rfl, rfl, rfl, rfl⟩

theorem SameEncoding.l2Rqsts (u : Byte) : SameEncoding.Statement (.l2Rqsts u) := ⟨rfl, rfl, rfl, rfl⟩

theorem SameEncoding.l2RqstsSelfDemandIState : SameEncoding.Statement .l2RqstsSelfDemandIState := ⟨rfl, rfl, rfl, rfl⟩

theorem SameEncoding.l2RqstsSelfDemandMesi : SameEncoding.Statement .l2RqstsSelfDemandMesi := ⟨rfl, rfl, rfl, rfl⟩

theorem SameEncoding.l2RejectBusq (u : Byte) : SameEncoding.Statement (.l2RejectBusq u) := ⟨rfl, rfl, rfl, rfl⟩

theorem SameEncoding.l2NoReq (u : Byte) : SameEncoding.Statement (.l2NoReq u) := ⟨rfl, rfl, rfl, rfl⟩

theorem SameEncoding.eistTrans : SameEncoding.Statement .eistTrans := ⟨rfl, rfl, rfl, rfl⟩

theorem SameEncoding.thermalTrip : SameEncoding.Statement .thermalTrip := ⟨rfl, rfl, rfl, rfl⟩

theorem SameEncoding.cpuClkUnhaltedCoreP : SameEncoding.Statement .cpuClkUnhaltedCoreP := ⟨rfl, rfl, rfl, rfl⟩

theorem SameEncoding.cpuClkUnhaltedBus : SameEncoding.Statement .cpuClkUnhaltedBus := ⟨rfl, rfl, rfl, rfl⟩

theorem SameEncoding.cpuClkUnhaltedNoOther : SameEncoding.Statement .cpuClkUnhaltedNoOther := ⟨rfl, rfl, rfl, rfl⟩

theorem SameEncoding.l1dCacheLd (u : Byte) : SameEncoding.Statement (.l1dCacheLd u) := ⟨rfl, rfl, rfl, rfl⟩

theorem SameEncoding.l1dCacheSt (u : Byte) : SameEncoding.Statement (.l1dCacheSt u) := ⟨rfl, rfl, rfl, rfl⟩

theorem SameEncoding.l1dCacheLock (u : Byte) : SameEncoding.Statement (.l1dCacheLock u) := ⟨rfl, rfl, rfl, rfl⟩

theorem SameEncoding.l1dCacheLockDuration : SameEncoding.Statement .l1dCacheLockDuration := ⟨rfl, rfl, rfl, rfl⟩

theorem SameEncoding.l1dAllRef : SameEncoding.Statement .l1dAllRef := ⟨rfl, rfl, rfl, rfl⟩

theorem SameEncoding.l1dAllCacheRef : SameEncoding.Statement .l1dAllCacheRef := ⟨rfl, rfl, rfl, rfl⟩

theorem SameEncoding.l1dRepl : SameEncoding.Statement .l1dRepl := ⟨rfl, rfl, rfl, rfl⟩

theorem SameEncoding.l1dMRepl : SameEncoding.Statement .l1dMRepl := ⟨rfl, rfl, rfl, rfl⟩

theorem SameEncoding.l1dMEvict : SameEncoding.Statement .l1dMEvict := ⟨rfl, rfl, rfl, rfl⟩

theorem SameEncoding.l1dPendMiss : SameEncoding.Statement .l1dPendMiss := ⟨rfl, rfl, rfl, rfl⟩

theorem SameEncoding.l1dSplitLoads : SameEncoding.Statement .l1dSplitLoads := ⟨rfl, rfl, rfl, rfl⟩

theorem SameEncoding.l1dSplitStores : SameEncoding.Statement .l1dSplitStores := ⟨rfl, rfl, rfl, rfl⟩

theorem SameEncoding.ssePreMissNta : SameEncoding.Statement .ssePreMissNta := ⟨rfl, rfl, rfl, rfl⟩

theorem SameEncoding.ssePreMissL1 : SameEncoding.Statement .ssePreMissL1 := ⟨rfl, rfl, rfl, rfl⟩

theorem SameEncoding.ssePreMissL2 : SameEncoding.Statement .ssePreMissL2 := ⟨rfl, rfl, rfl, rfl⟩

theorem SameEncoding.loadHitPre : SameEncoding.Statement .loadHitPre := ⟨rfl, rfl, rfl, rfl⟩

theorem SameEncoding.l1dPrefetchRequests : SameEncoding.Statement .l1dPrefetchRequests := ⟨rfl, rfl, rfl, rfl⟩

theorem SameEncoding.busRequestOutstanding (u : Byte) : SameEncoding.Statement (.busRequestOutstanding u) := ⟨rfl, rfl, rfl, rfl⟩

theorem SameEncoding.busBnrDrv (u : Byte) : SameEncoding.Statement (.busBnrDrv u) := ⟨rfl, rfl, rfl, rfl⟩

theorem SameEncoding.busDrdyClocks (u : Byte) : SameEncoding.Statement (.busDrdyClocks u) := ⟨rfl, rfl, rfl, rfl⟩

theorem SameEncoding.busLockClocks (u : Byte) : SameEncoding.Statement (.busLockClocks u) := ⟨rfl, rfl, rfl, rfl⟩

theorem SameEncoding.busDataRcv (u : Byte) : SameEncoding.Statement (.busDataRcv u) := ⟨rfl, rfl, rfl, rfl⟩

theorem SameEncoding.busTransBrd (u : Byte) : SameEncoding.Statement (.busTransBrd u) := ⟨rfl, rfl, rfl, rfl⟩

theorem SameEncoding.busTransRfo (u : Byte) : SameEncoding.Statement (.busTransRfo u) := ⟨rfl, rfl, rfl, rfl⟩

theorem SameEncoding.busTransWb (u : Byte) : SameEncoding.Statement (.busTransWb u) := ⟨rfl, rfl, rfl, rfl⟩

theorem SameEncoding.busTransIfetch (u : Byte) : SameEncoding.Statement (.busTransIfetch u) := ⟨rfl, rfl, rfl, rfl⟩

theorem SameEncoding.busTransInvalid (u : Byte) : SameEncoding.Statement (.busTransInvalid u) := ⟨rfl, rfl, rfl, rfl⟩

theorem SameEncoding.busTransPwr (u : Byte) : SameEncoding.Statement (.busTransPwr u) := ⟨rfl, rfl, rfl, rfl⟩

theorem SameEncoding.busTransP (u : Byte) : SameEncoding.Statement (.busTransP u) := ⟨rfl, rfl, rfl, rfl⟩

theorem SameEncoding.busTransIo (u : Byte) : SameEncoding.Statement (.busTransIo u) := ⟨rfl, rfl, rfl, rfl⟩

theorem SameEncoding.busTransDef (u : Byte) : SameEncoding.Statement (.busTransDef u) := ⟨rfl, rfl, rfl, rfl⟩

theorem SameEncoding.busTransBurst (u : Byte) : SameEncoding.Statement (.busTransBurst u) := ⟨rfl, rfl, rfl, rfl⟩

theorem SameEncoding.busTransMem (u : Byte) : SameEncoding.Statement (.busTransMem u) := ⟨rfl, rfl, rfl, rfl⟩

theorem SameEncoding.busTransAny (u : Byte) : SameEncoding.Statement (.busTransAny u) := ⟨rfl, rfl, rfl, rfl⟩

theorem SameEncoding.extSnoop (u : Byte) : SameEncoding.Statement (.extSnoop u) := ⟨rfl, rfl, rfl, rfl⟩

theorem SameEncoding.cmpSnoop (u : Byte) : SameEncoding.Statement (.cmpSnoop u) := ⟨rfl, rfl, rfl, rfl⟩

theorem SameEncoding.busHitDrv (u : Byte) : SameEncoding.Statement (.busHitDrv u) := ⟨rfl, rfl, rfl, rfl⟩

theorem SameEncoding.busHitmDrv (u : Byte) : SameEncoding.Statement (.busHitmDrv u) := ⟨rfl, rfl, rfl, rfl⟩

theorem SameEncoding.busqEmpty (u : Byte) : SameEncoding.Statement (.busqEmpty u) := ⟨rfl, rfl, rfl, rfl⟩

theorem SameEncoding.snoopStallDrv (u : Byte) : SameEncoding.Statement (.snoopStallDrv u) := ⟨rfl, rfl, rfl, rfl⟩

theorem SameEncoding.busIoWait (u : Byte) : SameEncoding.Statement (.busIoWait u) := ⟨rfl, rfl, rfl, rfl⟩

theorem SameEncoding.l1lReads : SameEncoding.Statement .l1lReads := ⟨rfl, rfl, rfl, rfl⟩

theorem SameEncoding.l1lMisses : SameEncoding.Statement .l1lMisses := ⟨rfl, rfl, rfl, rfl⟩

theorem SameEncoding.itlbSmallMiss : SameEncoding.Statement .itlbSmallMiss := ⟨rfl, rfl, rfl, rfl⟩

theorem SameEncoding.itlbLargeMiss : SameEncoding.Statement .itlbLargeMiss := ⟨rfl, rfl, rfl, rfl⟩

theorem SameEncoding.itlbFlush : SameEncoding.Statement .itlbFlush := ⟨rfl, rfl, rfl, rfl⟩

theorem SameEncoding.itlbMisses : SameEncoding.Statement .itlbMisses := ⟨rfl, rfl, rfl, rfl⟩

theorem SameEncoding.instQueueFull : SameEncoding.Statement .instQueueFull := ⟨rfl, rfl, rfl, rfl⟩

theorem SameEncoding.cyclesL1lMemStalled : SameEncoding.Statement .cyclesL1lMemStalled := ⟨rfl, rfl, rfl, rfl⟩

theorem SameEncoding.ildStall : SameEncoding.Statement .ildStall := ⟨rfl, rfl, rfl, rfl⟩

theorem SameEncoding.brInstExec : SameEncoding.Statement .brInstExec := ⟨rfl, rfl, rfl, rfl⟩

theorem SameEncoding.brMispExec : SameEncoding.Statement .brMispExec := ⟨rfl, rfl, rfl, rfl⟩

theorem SameEncoding.brBacMispExec : SameEncoding.Statement .brBacMispExec := ⟨rfl, rfl, rfl, rfl⟩

theorem SameEncoding.brCndExec : SameEncoding.Statement .brCndExec := ⟨rfl, rfl, rfl, rfl⟩

theorem SameEncoding.brCndMisspExec : SameEncoding.Statement .brCndMisspExec := ⟨rfl, rfl, rfl, rfl⟩

theorem SameEncoding.brIndExec : SameEncoding.Statement .brIndExec := ⟨rfl, rfl, rfl, rfl⟩

theorem SameEncoding.brIndMisspExec : SameEncoding.Statement .brIndMisspExec := ⟨rfl, rfl, rfl, rfl⟩

theorem SameEncoding.brRetExec : SameEncoding.Statement .brRetExec := ⟨rfl, rfl, rfl, rfl⟩

theorem SameEncoding.brRetMisspExec : SameEncoding.Statement .brRetMisspExec := ⟨rfl, rfl, rfl, rfl⟩

theorem SameEncoding.brRetBacMisspExec : SameEncoding.Statement .brRetBacMisspExec := ⟨rfl, rfl, rfl, rfl⟩

theorem SameEncoding.brCallExec : SameEncoding.Statement .brCallExec := ⟨rfl, rfl, rfl, rfl⟩

theorem SameEncoding.brCallMisspExec : SameEncoding.Statement .brCallMisspExec := ⟨rfl, rfl, rfl, rfl⟩

theorem SameEncoding.brIndCallExec : SameEncoding.Statement .brIndCallExec := ⟨rfl, rfl, rfl, rfl⟩

theorem SameEncoding.brTknBubble1 : SameEncoding.Statement .brTknBubble1 := ⟨rfl, rfl, rfl, rfl⟩

theorem SameEncoding.brTknBubble2 : SameEncoding.Statement .brTknBubble2 := ⟨rfl, rfl, rfl, rfl⟩

theorem SameEncoding.rsUopsDispatched : SameEncoding.Statement .rsUopsDispatched := ⟨rfl, rfl, rfl, rfl⟩

theorem SameEncoding.rsUopsDispatchedPort0 : SameEncoding.Statement .rsUopsDispatchedPort0 := ⟨rfl, rfl, rfl, rfl⟩

theorem SameEncoding.rsUopsDispatchedPort1 : SameEncoding.Statement .rsUopsDispatchedPort1 := ⟨rfl, rfl, rfl, rfl⟩

theorem SameEncoding.rsUopsDispatchedPort2 : SameEncoding.Statement .rsUopsDispatchedPort2 := ⟨rfl, rfl, rfl, rfl⟩

theorem SameEncoding.rsUopsDispatchedPort3 : SameEncoding.Statement .rsUopsDispatchedPort3 := ⟨rfl, rfl, rfl, rfl⟩

theorem SameEncoding.rsUopsDispatchedPort4 : SameEncoding.Statement .rsUopsDispatchedPort4 := ⟨rfl, rfl, rfl, rfl⟩

theorem SameEncoding.rsUopsDispatchedPort5 : SameEncoding.Statement .rsUopsDispatchedPort5 := ⟨rfl, rfl, rfl, rfl⟩

theorem SameEncoding.macroInstsDecoded : SameEncoding.Statement .macroInstsDecoded := ⟨rfl, rfl, rfl, rfl⟩

theorem SameEncoding.macroInstsCiscDecoded : SameEncoding.Statement .macroInstsCiscDecoded := ⟨rfl, rfl, rfl, rfl⟩

theorem SameEncoding.espSynch : SameEncoding.Statement .espSynch := ⟨rfl, rfl, rfl, rfl⟩

theorem SameEncoding.espAdditions : SameEncoding.Statement .espAdditions := ⟨rfl, rfl, rfl, rfl⟩

theorem SameEncoding.simdUopsExec : SameEncoding.Statement .simdUopsExec := ⟨rfl, rfl, rfl, rfl⟩

theorem SameEncoding.simdSatUopExec : SameEncoding.Statement .simdSatUopExec := ⟨rfl, rfl, rfl, rfl⟩

theorem SameEncoding.simdUopTypeExecMul : SameEncoding.Statement .simdUopTypeExecMul := ⟨rfl, rfl, rfl, rfl⟩

theorem SameEncoding.simdUopTypeExecShift : SameEncoding.Statement .simdUopTypeExecShift := ⟨rfl, rfl, rfl, rfl⟩

theorem SameEncoding.simdUopTypeExecPack : SameEncoding.Statement .simdUopTypeExecPack := ⟨rfl, rfl, rfl, rfl⟩

theorem SameEncoding.simdUopTypeExecUnpack : SameEncoding.Statement .simdUopTypeExecUnpack := ⟨rfl, rfl, rfl, rfl⟩

theorem SameEncoding.simdUopTypeExecLogical : SameEncoding.Statement .simdUopTypeExecLogical := ⟨rfl, rfl, rfl, rfl⟩

theorem SameEncoding.simdUopTypeExecArithmetic : SameEncoding.Statement .simdUopTypeExecArithmetic := ⟨rfl, rfl, rfl, rfl⟩

theorem SameEncoding.instRetiredAnyP : SameEncoding.Statement .instRetiredAnyP := ⟨rfl, rfl, rfl, rfl⟩

theorem SameEncoding.instRetiredLoads : SameEncoding.Statement .instRetiredLoads := ⟨rfl, rfl, rfl, rfl⟩

theorem SameEncoding.instRetiredStores : SameEncoding.Statement .instRetiredStores := ⟨rfl, rfl, rfl, rfl⟩

theorem SameEncoding.instRetiredOther : SameEncoding.Statement .instRetiredOther := ⟨rfl, rfl, rfl, rfl⟩

theorem SameEncoding.x87OpsRetiredFxch : SameEncoding.Statement .x87OpsRetiredFxch := ⟨rfl, rfl, rfl, rfl⟩

theorem SameEncoding.x87OpsRetiredAny : SameEncoding.Statement .x87OpsRetiredAny := ⟨rfl, rfl, rfl, rfl⟩

theorem SameEncoding.uopsRetiredLdIndBr : SameEncoding.Statement .uopsRetiredLdIndBr := ⟨rfl, rfl, rfl, rfl⟩

theorem SameEncoding.uopsRetiredStdSta : SameEncoding.Statement .uopsRetiredStdSta := ⟨rfl, rfl, rfl, rfl⟩

theorem SameEncoding.uopsRetiredMacroFusion : SameEncoding.Statement .uopsRetiredMacroFusion := ⟨rfl, rfl, rfl, rfl⟩

theorem SameEncoding.uopsRetiredFused : SameEncoding.Statement .uopsRetiredFused := ⟨rfl, rfl, rfl, rfl⟩

theorem SameEncoding.uopsRetiredNonFused : SameEncoding.Statement .uopsRetiredNonFused := ⟨rfl, rfl, rfl, rfl⟩

theorem SameEncoding.uopsRetiredAny : SameEncoding.Statement .uopsRetiredAny := ⟨rfl, rfl, rfl, rfl⟩

theorem SameEncoding.machineNukesSmc : SameEncoding.Statement .machineNukesSmc := ⟨rfl, rfl, rfl, rfl⟩

theorem SameEncoding.machineNukesMemOrder : SameEncoding.Statement .machineNukesMemOrder := ⟨rfl, rfl, rfl, rfl⟩

theorem SameEncoding.brInstRetiredAny : SameEncoding.Statement .brInstRetiredAny := ⟨rfl, rfl, rfl, rfl⟩

theorem SameEncoding.brInstRetiredPredNotTaken : SameEncoding.Statement .brInstRetiredPredNotTaken := ⟨rfl, rfl, rfl, rfl⟩

theorem SameEncoding.brInstRetiredMispredNotTaken : SameEncoding.Statement .brInstRetiredMispredNotTaken := ⟨rfl, rfl, rfl, rfl⟩

theorem SameEncoding.brInstRetiredPredTaken : SameEncoding.Statement .brInstRetiredPredTaken := ⟨rfl, rfl, rfl, rfl⟩

theorem SameEncoding.brInstRetiredMispredTaken : SameEncoding.Statement .brInstRetiredMispredTaken := ⟨rfl, rfl, rfl, rfl⟩

theorem SameEncoding.brInstRetiredTaken : SameEncoding.Statement .brInstRetiredTaken := ⟨rfl, rfl, rfl, rfl⟩

theorem SameEncoding.brInstRetiredMispred : SameEncoding.Statement .brInstRetiredMispred := ⟨rfl, rfl, rfl, rfl⟩

theorem SameEncoding.cyclesIntMasked : SameEncoding.Statement .cyclesIntMasked := ⟨rfl, rfl, rfl, rfl⟩

theorem SameEncoding.cyclesIntPendingAndMasked : SameEncoding.Statement .cyclesIntPendingAndMasked := ⟨rfl, rfl, rfl, rfl⟩

theorem SameEncoding.simdInstRetiredPackedSingle : SameEncoding.Statement .simdInstRetiredPackedSingle := ⟨rfl, rfl, rfl, rfl⟩

theorem SameEncoding.simdInstRetiredScalarSingle : SameEncoding.Statement .simdInstRetiredScalarSingle := ⟨rfl, rfl, rfl, rfl⟩

theorem SameEncoding.simdInstRetiredPackedDouble : SameEncoding.Statement .simdInstRetiredPackedDouble := ⟨rfl, rfl, rfl, rfl⟩

theorem SameEncoding.simdInstRetiredScalarDouble : SameEncoding.Statement .simdInstRetiredScalarDouble := ⟨rfl, rfl, rfl, rfl⟩

theorem SameEncoding.simdInstRetiredVector : SameEncoding.Statement .simdInstRetiredVector := ⟨rfl, rfl, rfl, rfl⟩

theorem SameEncoding.simdInstRetiredAny : SameEncoding.Statement .simdInstRetiredAny := ⟨rfl, rfl, rfl, rfl⟩

theorem SameEncoding.hwIntRcv : SameEncoding.Statement .hwIntRcv := ⟨rfl, rfl, rfl, rfl⟩

theorem SameEncoding.itlbMissRetired : SameEncoding.Statement .itlbMissRetired := ⟨rfl, rfl, rfl, rfl⟩

theorem SameEncoding.simdCompInstRetiredPackedSingle : SameEncoding.Statement .simdCompInstRetiredPackedSingle := ⟨rfl, rfl, rfl, rfl⟩

theorem SameEncoding.simdCompInstRetiredScalarSingle : SameEncoding.Statement .simdCompInstRetiredScalarSingle := ⟨rfl, rfl, rfl, rfl⟩

theorem SameEncoding.simdCompInstRetiredPackedDouble : SameEncoding.Statement .simdCompInstRetiredPackedDouble := ⟨rfl, rfl, rfl, rfl⟩

theorem SameEncoding.simdCompInstRetiredScalarDouble : SameEncoding.Statement .simdCompInstRetiredScalarDouble := ⟨rfl, rfl, rfl, rfl⟩

theorem SameEncoding.memLoadRetiredL1dMiss : SameEncoding.Statement .memLoadRetiredL1dMiss := ⟨rfl, rfl, rfl, rfl⟩

theorem SameEncoding.memLoadRetiredL1dLineMiss : SameEncoding.Statement .memLoadRetiredL1dLineMiss := ⟨rfl, rfl, rfl, rfl⟩

theorem SameEncoding.memLoadRetiredL2Miss : SameEncoding.Statement .memLoadRetiredL2Miss := ⟨rfl, rfl, rfl, rfl⟩

theorem SameEncoding.memLoadRetiredL2LineMiss : SameEncoding.Statement .memLoadRetiredL2LineMiss := ⟨rfl, rfl, rfl, rfl⟩

theorem SameEncoding.memLoadRetiredDtlbMiss : SameEncoding.Statement .memLoadRetiredDtlbMiss := ⟨rfl, rfl, rfl, rfl⟩

theorem SameEncoding.fpMmxTransToMmx : SameEncoding.Statement .fpMmxTransToMmx := ⟨rfl, rfl, rfl, rfl⟩

theorem SameEncoding.fpMmxTransToFp : SameEncoding.Statement .fpMmxTransToFp := ⟨rfl, rfl, rfl, rfl⟩

theorem SameEncoding.simdAssist : SameEncoding.Statement .simdAssist := ⟨rfl, rfl, rfl, rfl⟩

theorem SameEncoding.simdInstrRetired : SameEncoding.Statement .simdInstrRetired := ⟨rfl, rfl, rfl, rfl⟩

theorem SameEncoding.simdSatInstrRetired : SameEncoding.Statement .simdSatInstrRetired := ⟨rfl, rfl, rfl, rfl⟩

theorem SameEncoding.ratStallsRobReadPort : SameEncoding.Statement .ratStallsRobReadPort := ⟨rfl, rfl, rfl, rfl⟩

theorem SameEncoding.ratStallsPartialCycles : SameEncoding.Statement .ratStallsPartialCycles := ⟨rfl, rfl, rfl, rfl⟩

theorem SameEncoding.ratStallsFlags : SameEncoding.Statement .ratStallsFlags := ⟨rfl, rfl, rfl, rfl⟩

theorem SameEncoding.ratStallsFpsw : SameEncoding.Statement .ratStallsFpsw := ⟨rfl, rfl, rfl, rfl⟩

theorem SameEncoding.ratStallsAny : SameEncoding.Statement .ratStallsAny := ⟨rfl, rfl, rfl, rfl⟩

theorem SameEncoding.segRenameStallsEs : SameEncoding.Statement .segRenameStallsEs := ⟨rfl, rfl, rfl, rfl⟩

theorem SameEncoding.segRenameStallsDs : SameEncoding.Statement .segRenameStallsDs := ⟨rfl, rfl, rfl, rfl⟩

theorem SameEncoding.segRenameStallsFs : SameEncoding.Statement .segRenameStallsFs := ⟨rfl, rfl, rfl, rfl⟩

theorem SameEncoding.segRenameStallsGs : SameEncoding.Statement .segRenameStallsGs := ⟨rfl, rfl, rfl, rfl⟩

theorem SameEncoding.segRenameStallsAny : SameEncoding.Statement .segRenameStallsAny := ⟨rfl, rfl, rfl, rfl⟩

theorem SameEncoding.segRegRenamesEs : SameEncoding.Statement .segRegRenamesEs := ⟨rfl, rfl, rfl, rfl⟩

theorem SameEncoding.segRegRenamesDs : SameEncoding.Statement .segRegRenamesDs := ⟨rfl, rfl, rfl, rfl⟩

theorem SameEncoding.segRegRenamesFs : SameEncoding.Statement .segRegRenamesFs := ⟨rfl, rfl, rfl, rfl⟩

theorem SameEncoding.segRegRenamesGs : SameEncoding.Statement .segRegRenamesGs := ⟨rfl, rfl, rfl, rfl⟩

theorem SameEncoding.segRegRenamesAny : SameEncoding.Statement .segRegRenamesAny := ⟨rfl, rfl, rfl, rfl⟩

theorem SameEncoding.resourceStallsRobFull : SameEncoding.Statement .resourceStallsRobFull := ⟨rfl, rfl, rfl, rfl⟩

theorem SameEncoding.resourceStallsRsFull : SameEncoding.Statement .resourceStallsRsFull := ⟨rfl, rfl, rfl, rfl⟩

theorem SameEncoding.resourceStallsLdSt : SameEncoding.Statement .resourceStallsLdSt := ⟨rfl, rfl, rfl, rfl⟩

theorem SameEncoding.resourceStallsFpcw : SameEncoding.Statement .resourceStallsFpcw := ⟨rfl, rfl, rfl, rfl⟩

theorem SameEncoding.resourceStallsBrMissClear : SameEncoding.Statement .resourceStallsBrMissClear := ⟨rfl, rfl, rfl, rfl⟩

theorem SameEncoding.resourceStallsAny : SameEncoding.Statement .resourceStallsAny := ⟨rfl, rfl, rfl, rfl⟩

theorem SameEncoding.brInstDecoded : SameEncoding.Statement .brInstDecoded := ⟨rfl, rfl, rfl, rfl⟩

theorem SameEncoding.bogusBr : SameEncoding.Statement .bogusBr := ⟨rfl, rfl, rfl, rfl⟩

theorem SameEncoding.baclears : SameEncoding.Statement .baclears := ⟨rfl, rfl, rfl, rfl⟩

theorem SameEncoding.prefRqstsUp : SameEncoding.Statement .prefRqstsUp := ⟨rfl, rfl, rfl, rfl⟩

theorem SameEncoding.prefRqstsDn : SameEncoding.Statement .prefRqstsDn := ⟨rfl, rfl, rfl, rfl⟩

end Sys2Proof.Laws
end

