-- ==== Sys2Proof/Tests/Slice0.lean ====
section
/-! SUPPORT. Tests/Slice0.lean: the model's own tests. Words are written out from the encodings of 40 to 49 of spec/; the
vectors V<n> and the programs P<n> are those of 95_test_vectors.md; every other expected value is counted by hand from
the rule named. The `witness` theorems show states and operands that meet the hypotheses of a statement. -/

namespace Sys2Proof.Tests

open Sys2Proof Sys2Proof.Machine

/-! ## Well-formedness -/

theorem test_wellFormed_refuses : Instr.wellFormed (.l2Rqsts 0x41) = false ∧ Instr.wellFormed (.l2Rqsts 0x4F) = false ∧
    Instr.wellFormed (.l1dCacheLock 0x10) = false := by decide

theorem test_wellFormed_accepts : Instr.wellFormed (.l2Rqsts 0x40) = true ∧ Instr.wellFormed (.l1dCacheLock 0x0F) = true ∧
    Instr.wellFormed (.l2Ld 0x41) = true := by decide

/-! ## Decoding: every constructor by a word written out -/

theorem test_decode_architectural :
    decodeCode 0x003C = some (Instr.event .archUnhaltedCoreCycles) ∧
    decodeCode 0x013C = some (Instr.event .archUnhaltedReferenceCycles) ∧
    decodeCode 0x00C0 = some (Instr.event .archInstructionRetired) ∧
    decodeCode 0x4F2E = some (Instr.event .archLlcReference) ∧
    decodeCode 0x412E = some (Instr.event .archLlcMisses) ∧
    decodeCode 0x00C4 = some (Instr.event .archBranchInstructionRetired) ∧
    decodeCode 0x00C5 = some (Instr.event .archBranchMissesRetired) := by
  decide +kernel

theorem test_decode_fixedFunction :
    decodeMsr 0x309 = some .fixedInstrRetiredAny ∧
    decodeMsr 0x30A = some .fixedCpuClkUnhaltedCore ∧
    decodeMsr 0x30B = some .fixedCpuClkUnhaltedRef := by
  decide +kernel

theorem test_decode_loadStore :
    decodeCode 0x0203 = some .loadBlockSta ∧
    decodeCode 0x0403 = some .loadBlockStd ∧
    decodeCode 0x0803 = some .loadBlockOverlapStore ∧
    decodeCode 0x1003 = some .loadBlockUntilRetire ∧
    decodeCode 0x2003 = some .loadBlockL1d ∧
    decodeCode 0x0104 = some .sbDrainCycles ∧
    decodeCode 0x0204 = some .storeBlockOrder ∧
    decodeCode 0x0804 = some .storeBlockSnoop ∧
    decodeCode 0x0006 = some .segmentRegLoads ∧
    decodeCode 0x0007 = some .ssePreExecNta ∧
    decodeCode 0x0107 = some .ssePreExecL1 ∧
    decodeCode 0x0207 = some .ssePreExecL2 ∧
    decodeCode 0x0307 = some .ssePreExecStores ∧
    decodeCode 0x0108 = some .dtlbMissesAny ∧
    decodeCode 0x0208 = some .dtlbMissesMissLd ∧
    decodeCode 0x0408 = some .dtlbMissesL0MissLd ∧
    decodeCode 0x0808 = some .dtlbMissesMissSt ∧
    decodeCode 0x0109 = some .memoryDisambiguationReset ∧
    decodeCode 0x0209 = some .memoryDisambiguationSuccess ∧
    decodeCode 0x010C = some .pageWalksCount ∧
    decodeCode 0x020C = some .pageWalksCycles ∧
    decodeCode 0x0010 = some .fpCompOpsExe ∧
    decodeCode 0x0011 = some .fpAssist ∧
    decodeCode 0x0012 = some .mul ∧
    decodeCode 0x0013 = some .div ∧
    decodeCode 0x0014 = some .cyclesDivBusy ∧
    decodeCode 0x0018 = some .idleDuringDiv ∧
    decodeCode 0x0019 = some .delayedBypassFp ∧
    decodeCode 0x0119 = some .delayedBypassSimd ∧
    decodeCode 0x0219 = some .delayedBypassLoad := by
  decide +kernel

theorem test_decode_l2AndClock :
    decodeCode 0xC521 = some (.l2Ads 0xC5) ∧
    decodeCode 0xC523 = some (.l2DbusBusyRd 0xC5) ∧
    decodeCode 0xC524 = some (.l2LinesIn 0xC5) ∧
    decodeCode 0xC525 = some (.l2MLinesIn 0xC5) ∧
    decodeCode 0xC526 = some (.l2LinesOut 0xC5) ∧
    decodeCode 0xC527 = some (.l2MLinesOut 0xC5) ∧
    decodeCode 0xC528 = some (.l2Ifetch 0xC5) ∧
    decodeCode 0xC529 = some (.l2Ld 0xC5) ∧
    decodeCode 0xC52A = some (.l2St 0xC5) ∧
    decodeCode 0xC52B = some (.l2Lock 0xC5) ∧
    decodeCode 0xC52E = some (.l2Rqsts 0xC5) ∧
    decodeCode 0x412E = some .l2RqstsSelfDemandIState ∧
    decodeCode 0x4F2E = some .l2RqstsSelfDemandMesi ∧
    decodeCode 0xC530 = some (.l2RejectBusq 0xC5) ∧
    decodeCode 0xC532 = some (.l2NoReq 0xC5) ∧
    decodeCode 0x003A = some .eistTrans ∧
    decodeCode 0xC03B = some .thermalTrip ∧
    decodeCode 0x003C = some .cpuClkUnhaltedCoreP ∧
    decodeCode 0x013C = some .cpuClkUnhaltedBus ∧
    decodeCode 0x023C = some .cpuClkUnhaltedNoOther := by
  decide +kernel

theorem test_decode_l1Data :
    decodeCode 0xC540 = some (.l1dCacheLd 0xC5) ∧
    decodeCode 0xC541 = some (.l1dCacheSt 0xC5) ∧
    decodeCode 0xC542 = some (.l1dCacheLock 0xC5) ∧
    decodeCode 0x1042 = some .l1dCacheLockDuration ∧
    decodeCode 0x1043 = some .l1dAllRef ∧
    decodeCode 0x0243 = some .l1dAllCacheRef ∧
    decodeCode 0x0F45 = some .l1dRepl ∧
    decodeCode 0x0046 = some .l1dMRepl ∧
    decodeCode 0x0047 = some .l1dMEvict ∧
    decodeCode 0x0048 = some .l1dPendMiss ∧
    decodeCode 0x0149 = some .l1dSplitLoads ∧
    decodeCode 0x0249 = some .l1dSplitStores ∧
    decodeCode 0x004B = some .ssePreMissNta ∧
    decodeCode 0x014B = some .ssePreMissL1 ∧
    decodeCode 0x024B = some .ssePreMissL2 ∧
    decodeCode 0x004C = some .loadHitPre ∧
    decodeCode 0x104E = some .l1dPrefetchRequests := by
  decide +kernel

theorem test_decode_busEvents :
    decodeCode 0xC560 = some (.busRequestOutstanding 0xC5) ∧
    decodeCode 0xC561 = some (.busBnrDrv 0xC5) ∧
    decodeCode 0xC562 = some (.busDrdyClocks 0xC5) ∧
    decodeCode 0xC563 = some (.busLockClocks 0xC5) ∧
    decodeCode 0xC564 = some (.busDataRcv 0xC5) ∧
    decodeCode 0xC565 = some (.busTransBrd 0xC5) ∧
    decodeCode 0xC566 = some (.busTransRfo 0xC5) ∧
    decodeCode 0xC567 = some (.busTransWb 0xC5) ∧
    decodeCode 0xC568 = some (.busTransIfetch 0xC5) ∧
    decodeCode 0xC569 = some (.busTransInvalid 0xC5) ∧
    decodeCode 0xC56A = some (.busTransPwr 0xC5) ∧
    decodeCode 0xC56B = some (.busTransP 0xC5) ∧
    decodeCode 0xC56C = some (.busTransIo 0xC5) ∧
    decodeCode 0xC56D = some (.busTransDef 0xC5) ∧
    decodeCode 0xC56E = some (.busTransBurst 0xC5) ∧
    decodeCode 0xC56F = some (.busTransMem 0xC5) ∧
    decodeCode 0xC570 = some (.busTransAny 0xC5) ∧
    decodeCode 0xC577 = some (.extSnoop 0xC5) ∧
    decodeCode 0xC578 = some (.cmpSnoop 0xC5) ∧
    decodeCode 0xC57A = some (.busHitDrv 0xC5) ∧
    decodeCode 0xC57B = some (.busHitmDrv 0xC5) ∧
    decodeCode 0xC57D = some (.busqEmpty 0xC5) ∧
    decodeCode 0xC57E = some (.snoopStallDrv 0xC5) ∧
    decodeCode 0xC57F = some (.busIoWait 0xC5) := by
  decide +kernel

theorem test_decode_frontEnd :
    decodeCode 0x0080 = some .l1lReads ∧
    decodeCode 0x0081 = some .l1lMisses ∧
    decodeCode 0x0282 = some .itlbSmallMiss ∧
    decodeCode 0x1082 = some .itlbLargeMiss ∧
    decodeCode 0x4082 = some .itlbFlush ∧
    decodeCode 0x1282 = some .itlbMisses ∧
    decodeCode 0x0283 = some .instQueueFull ∧
    decodeCode 0x0086 = some .cyclesL1lMemStalled ∧
    decodeCode 0x0087 = some .ildStall ∧
    decodeCode 0x0088 = some .brInstExec ∧
    decodeCode 0x0089 = some .brMispExec ∧
    decodeCode 0x008A = some .brBacMispExec ∧
    decodeCode 0x008B = some .brCndExec ∧
    decodeCode 0x008C = some .brCndMisspExec ∧
    decodeCode 0x008D = some .brIndExec ∧
    decodeCode 0x008E = some .brIndMisspExec ∧
    decodeCode 0x008F = some .brRetExec ∧
    decodeCode 0x0090 = some .brRetMisspExec ∧
    decodeCode 0x0091 = some .brRetBacMisspExec ∧
    decodeCode 0x0092 = some .brCallExec ∧
    decodeCode 0x0093 = some .brCallMisspExec ∧
    decodeCode 0x0094 = some .brIndCallExec ∧
    decodeCode 0x0097 = some .brTknBubble1 ∧
    decodeCode 0x0098 = some .brTknBubble2 ∧
    decodeCode 0x00A0 = some .rsUopsDispatched ∧
    decodeCode 0x01A1 = some .rsUopsDispatchedPort0 ∧
    decodeCode 0x02A1 = some .rsUopsDispatchedPort1 ∧
    decodeCode 0x04A1 = some .rsUopsDispatchedPort2 ∧
    decodeCode 0x08A1 = some .rsUopsDispatchedPort3 ∧
    decodeCode 0x10A1 = some .rsUopsDispatchedPort4 ∧
    decodeCode 0x20A1 = some .rsUopsDispatchedPort5 ∧
    decodeCode 0x01AA = some .macroInstsDecoded ∧
    decodeCode 0x08AA = some .macroInstsCiscDecoded ∧
    decodeCode 0x01AB = some .espSynch ∧
    decodeCode 0x02AB = some .espAdditions := by
  decide +kernel

theorem test_decode_retirement :
    decodeCode 0x00B0 = some .simdUopsExec ∧
    decodeCode 0x00B1 = some .simdSatUopExec ∧
    decodeCode 0x01B3 = some .simdUopTypeExecMul ∧
    decodeCode 0x02B3 = some .simdUopTypeExecShift ∧
    decodeCode 0x04B3 = some .simdUopTypeExecPack ∧
    decodeCode 0x08B3 = some .simdUopTypeExecUnpack ∧
    decodeCode 0x10B3 = some .simdUopTypeExecLogical ∧
    decodeCode 0x20B3 = some .simdUopTypeExecArithmetic ∧
    decodeCode 0x00C0 = some .instRetiredAnyP ∧
    decodeCode 0x01C0 = some .instRetiredLoads ∧
    decodeCode 0x02C0 = some .instRetiredStores ∧
    decodeCode 0x04C0 = some .instRetiredOther ∧
    decodeCode 0x01C1 = some .x87OpsRetiredFxch ∧
    decodeCode 0xFEC1 = some .x87OpsRetiredAny ∧
    decodeCode 0x01C2 = some .uopsRetiredLdIndBr ∧
    decodeCode 0x02C2 = some .uopsRetiredStdSta ∧
    decodeCode 0x04C2 = some .uopsRetiredMacroFusion ∧
    decodeCode 0x07C2 = some .uopsRetiredFused ∧
    decodeCode 0x08C2 = some .uopsRetiredNonFused ∧
    decodeCode 0x0FC2 = some .uopsRetiredAny ∧
    decodeCode 0x01C3 = some .machineNukesSmc ∧
    decodeCode 0x04C3 = some .machineNukesMemOrder := by
  decide +kernel

theorem test_decode_branchSimdRetired :
    decodeCode 0x00C4 = some .brInstRetiredAny ∧
    decodeCode 0x01C4 = some .brInstRetiredPredNotTaken ∧
    decodeCode 0x02C4 = some .brInstRetiredMispredNotTaken ∧
    decodeCode 0x04C4 = some .brInstRetiredPredTaken ∧
    decodeCode 0x08C4 = some .brInstRetiredMispredTaken ∧
    decodeCode 0x0CC4 = some .brInstRetiredTaken ∧
    decodeCode 0x00C5 = some .brInstRetiredMispred ∧
    decodeCode 0x01C6 = some .cyclesIntMasked ∧
    decodeCode 0x02C6 = some .cyclesIntPendingAndMasked ∧
    decodeCode 0x01C7 = some .simdInstRetiredPackedSingle ∧
    decodeCode 0x02C7 = some .simdInstRetiredScalarSingle ∧
    decodeCode 0x04C7 = some .simdInstRetiredPackedDouble ∧
    decodeCode 0x08C7 = some .simdInstRetiredScalarDouble ∧
    decodeCode 0x10C7 = some .simdInstRetiredVector ∧
    decodeCode 0x1FC7 = some .simdInstRetiredAny ∧
    decodeCode 0x00C8 = some .hwIntRcv ∧
    decodeCode 0x00C9 = some .itlbMissRetired ∧
    decodeCode 0x01CA = some .simdCompInstRetiredPackedSingle ∧
    decodeCode 0x02CA = some .simdCompInstRetiredScalarSingle ∧
    decodeCode 0x04CA = some .simdCompInstRetiredPackedDouble ∧
    decodeCode 0x08CA = some .simdCompInstRetiredScalarDouble ∧
    decodeCode 0x01CB = some .memLoadRetiredL1dMiss ∧
    decodeCode 0x02CB = some .memLoadRetiredL1dLineMiss ∧
    decodeCode 0x04CB = some .memLoadRetiredL2Miss ∧
    decodeCode 0x08CB = some .memLoadRetiredL2LineMiss ∧
    decodeCode 0x10CB = some .memLoadRetiredDtlbMiss ∧
    decodeCode 0x01CC = some .fpMmxTransToMmx ∧
    decodeCode 0x02CC = some .fpMmxTransToFp ∧
    decodeCode 0x00CD = some .simdAssist ∧
    decodeCode 0x00CE = some .simdInstrRetired ∧
    decodeCode 0x00CF = some .simdSatInstrRetired := by
  decide +kernel

theorem test_decode_stalls :
    decodeCode 0x01D2 = some .ratStallsRobReadPort ∧
    decodeCode 0x02D2 = some .ratStallsPartialCycles ∧
    decodeCode 0x04D2 = some .ratStallsFlags ∧
    decodeCode 0x08D2 = some .ratStallsFpsw ∧
    decodeCode 0x0FD2 = some .ratStallsAny ∧
    decodeCode 0x01D4 = some .segRenameStallsEs ∧
    decodeCode 0x02D4 = some .segRenameStallsDs ∧
    decodeCode 0x04D4 = some .segRenameStallsFs ∧
    decodeCode 0x08D4 = some .segRenameStallsGs ∧
    decodeCode 0x0FD4 = some .segRenameStallsAny ∧
    decodeCode 0x01D5 = some .segRegRenamesEs ∧
    decodeCode 0x02D5 = some .segRegRenamesDs ∧
    decodeCode 0x04D5 = some .segRegRenamesFs ∧
    decodeCode 0x08D5 = some .segRegRenamesGs ∧
    decodeCode 0x0FD5 = some .segRegRenamesAny ∧
    decodeCode 0x01DC = some .resourceStallsRobFull ∧
    decodeCode 0x02DC = some .resourceStallsRsFull ∧
    decodeCode 0x04DC = some .resourceStallsLdSt ∧
    decodeCode 0x08DC = some .resourceStallsFpcw ∧
    decodeCode 0x10DC = some .resourceStallsBrMissClear ∧
    decodeCode 0x1FDC = some .resourceStallsAny ∧
    decodeCode 0x00E0 = some .brInstDecoded ∧
    decodeCode 0x00E4 = some .bogusBr ∧
    decodeCode 0x00E6 = some .baclears ∧
    decodeCode 0x00F0 = some .prefRqstsUp ∧
    decodeCode 0x00F8 = some .prefRqstsDn := by
  decide +kernel

/-- Both kinds of word through the decoder of whole words; 309H read as an event code is no listed pair. -/
theorem test_decodeTableWord : decodeTableWord 16 0x412E = some .l2RqstsSelfDemandIState ∧
    decodeTableWord 16 0x30A = some .fixedCpuClkUnhaltedCore ∧ decodeTableWord 16 0x0029 = some (.l2Ld 0) ∧
    decodeTableWord 16 0x03C0 = none := by decide +kernel

/-- Whole selections under the tables at reset: 42H/0FH is accepted, 42H/8FH has a bit outside the field. -/
theorem test_decodeSelection : decodeSelection .family 0x42 0x0F = some (.l1dCacheLock 0x0F) ∧
    decodeSelection .family 0x42 0x8F = none ∧ decodeSelection .family 0x2E 0xFF = some (.l2Rqsts 0xFF) := by
  decide +kernel

/-! ## One event on one counter -/

/-- The state after reset in the moment `m`, with counter 0 of core 0 being served. -/
def during (m : Moment) : State := { State.reset with turn := [.gp .c0 0], now := m }

/-- The same with levels of core 0 and of core 1. -/
def levels (p p1 : Pipe) (m : Moment) : State :=
  { during m with core0 := { State.reset.core0 with pipe := p }, core1 := { State.reset.core1 with pipe := p1 } }

/-- The same with one core state. -/
def coreIs (c : Core) (m : Moment) : State := { during m with core0 := c }

/-- The same with one state of the bus. -/
def busIs (b : Bus) (m : Moment) : State := { during m with bus := b }

/-- A cycle of core 0. -/
def cycle : Moment := .tick (.core .c0)

/-- The core after reset. -/
def core : Core := .reset 2

/-- No levels. -/
def pipe : Pipe := .reset

/-- An instruction retired with nothing to say of it. -/
def inst : RetiredInst := ⟨0, 0, false, none, false, false, none, none, false, false, false, [], []⟩

/-- A micro-op that completes these instructions. -/
def retires (l : List RetiredInst) : Moment := .found .c0 (.retired ⟨none, l⟩)

/-- A micro-op with this fusion. -/
def fused (f : Option Fusion) : Moment := .found .c0 (.retired ⟨f, []⟩)

/-- A branch executed. -/
def branch (k : BranchKind) (m d : Bool) : Moment := .occ .c0 (.branchExecuted ⟨k, m, d, false⟩)

/-- A retired load from cacheable memory that missed everything. -/
def load : RetiredLoad := ⟨.cacheable, false, true, false, true, false, true, false, false, 0⟩

/-- An L2 request. -/
def request (k : L2Kind) : L2Req := ⟨k, 0, true, true⟩

/-- A bus transaction of core 0. -/
def trans (k : BusKind) : Moment := .sys (.busTrans ⟨k, .thisProcessor, some .c0, true, false⟩)

/-- A reference of core 0 to eight bytes. -/
def ref (write locked : Bool) (addr : Nat) : Moment :=
  .found .c0 (.dataRef ⟨write, locked, .cacheable, ⟨addr, 8⟩⟩ .e .e)

/-- A bus with nothing on it. -/
def bus : Bus := ⟨[], [], [], [], [], []⟩

/-- A load or a store of these bytes of cacheable memory. -/
def access (write : Bool) (addr size : Nat) : DataRef := ⟨write, false, .cacheable, ⟨addr, size⟩⟩

/-- A load of eight bytes over a cache line boundary. -/
def splitLoad : DataRef := access false 60 8

/-- A load from uncacheable memory. -/
def uncacheableLoad : DataRef := ⟨false, false, .uncacheable, ⟨0, 4⟩⟩

/-- Rules R140 to R146, one moment that counts and one that does not (V12, V13, V18, V19). -/
theorem test_witness_architectural :
    [gain .archUnhaltedCoreCycles (during cycle),
     gain .archUnhaltedCoreCycles (coreIs { core with halted := true } cycle),
     gain .archUnhaltedReferenceCycles (during (.tick .bus)),
     gain .archUnhaltedReferenceCycles (coreIs { core with halted := true } (.tick .bus)),
     gain .archInstructionRetired (during (retires [inst, inst])),
     gain .archInstructionRetired (during (retires [])),
     gain .archLlcReference (during (.found .c0 (.l2Request (request .l1dRead) true .m))),
     gain .archLlcReference (during (.found .c0 (.l2Request (request .hwPrefetch) true .m))),
     gain .archLlcMisses (during (.found .c0 (.l2Request (request .ifetch) true .i))),
     gain .archLlcMisses (during (.found .c0 (.l2Request (request .ifetch) true .s))),
     gain .archBranchInstructionRetired (during (retires [inst, { inst with branch := some ⟨true, false⟩ }])),
     gain .archBranchInstructionRetired (during (retires [inst])),
     gain .archBranchMissesRetired (during (retires [{ inst with branch := some ⟨true, true⟩ }])),
     gain .archBranchMissesRetired (during (retires [{ inst with branch := some ⟨true, false⟩ }]))] =
    [1, 0, 1, 0, 2, 0, 1, 0, 1, 0, 1, 0, 1, 0] := by
  decide +kernel

/-- Rules R150 to R152 on the counters they are wired to, halted and not (V10, V13, V16). -/
theorem test_witness_fixedFunction :
    [gain .fixedInstrRetiredAny { during (retires [inst]) with turn := [.fixed .c0 .ctr0] },
     gain .fixedInstrRetiredAny { during (retires [inst]) with turn := [.fixed .c0 .ctr1] },
     gain .fixedCpuClkUnhaltedCore { during cycle with turn := [.fixed .c0 .ctr1] },
     gain .fixedCpuClkUnhaltedRef { during (.tick .ref) with turn := [.fixed .c0 .ctr2] },
     gain .fixedCpuClkUnhaltedRef { during (.tick .bus) with turn := [.fixed .c0 .ctr2] },
     gain .fixedInstrRetiredAny (during (retires [inst])),
     gain .instRetiredAnyP { during (retires [inst]) with turn := [.fixed .c0 .ctr0] }] = [1, 0, 1, 1, 0, 0, 0] := by
  decide +kernel

/-- Rules R200 to R228, occurrences (V20, V23, V35). -/
theorem test_witness_loadStore_occurrences :
    [gain .loadBlockSta (during (.occ .c0 (.loadBlocked .unknownAddress))),
     gain .loadBlockSta (during (.occ .c0 (.loadBlocked (.untilRetire splitLoad)))),
     gain .loadBlockStd (during (.occ .c0 (.loadBlocked (.unknownData ⟨8, 4⟩ ⟨8, 4⟩)))),
     gain .loadBlockStd (during (.occ .c0 (.loadBlocked (.unknownData ⟨8, 4⟩ ⟨12, 4⟩)))),
     gain .loadBlockOverlapStore (during (.occ .c0 (.loadBlocked (.overlap ⟨4096, 4⟩ ⟨8192, 4⟩)))),
     gain .loadBlockOverlapStore (during (.occ .c0 (.loadBlocked (.overlap ⟨4096, 4⟩ ⟨4096, 4⟩)))),
     gain .loadBlockUntilRetire (during (.occ .c0 (.loadBlocked (.untilRetire splitLoad)))),
     gain .loadBlockUntilRetire (during (.occ .c0 (.loadBlocked .unknownAddress))),
     gain .loadBlockL1d (during (.occ .c0 (.loadBlocked (.l1d (.partialRead uncacheableLoad))))),
     gain .loadBlockL1d (during (.occ .c0 (.loadBlocked (.l1d (.partialRead splitLoad))))),
     gain .segmentRegLoads (during (.found .c0 .segmentLoad)),
     gain .segmentRegLoads (during .quiet),
     gain .ssePreExecNta (during (.occ .c0 (.ssePrefetch .nta false))),
     gain .ssePreExecNta (during (.occ .c0 (.ssePrefetch .t0 false))),
     gain .ssePreExecL1 (during (.occ .c0 (.ssePrefetch .t0 false))),
     gain .ssePreExecL1 (during (.occ .c0 (.ssePrefetch .t1 false))),
     gain .ssePreExecL2 (during (.occ .c0 (.ssePrefetch .t2 false))),
     gain .ssePreExecL2 (during (.occ .c0 (.ssePrefetch .nta false))),
     gain .ssePreExecStores (during (.occ .c0 .nonTemporalStore)),
     gain .ssePreExecStores (during .quiet),
     gain .dtlbMissesAny (during (.found .c0 (.dtlbLookup .unlisted false true))),
     gain .dtlbMissesAny (during (.found .c0 (.dtlbLookup .load true false))),
     gain .dtlbMissesMissLd (during (.found .c0 (.dtlbLookup .load true true))),
     gain .dtlbMissesMissLd (during (.found .c0 (.dtlbLookup .store false true))),
     gain .dtlbMissesL0MissLd (during (.found .c0 (.dtlbLookup .load true false))),
     gain .dtlbMissesL0MissLd (during (.found .c0 (.dtlbLookup .load false true))),
     gain .dtlbMissesMissSt (during (.found .c0 (.dtlbLookup .store false true))),
     gain .dtlbMissesMissSt (during (.found .c0 (.dtlbLookup .load true true))),
     gain .memoryDisambiguationSuccess (during (.occ .c0 .disambiguated)),
     gain .memoryDisambiguationSuccess (during .quiet),
     gain .pageWalksCount (during (.found .c0 .pageWalk)),
     gain .pageWalksCount (during .quiet),
     gain .fpCompOpsExe (during (.occ .c0 .fpComputationalUop)),
     gain .fpCompOpsExe (during .quiet),
     gain .fpAssist (during (.found .c0 (.fpOp true))),
     gain .fpAssist (during (.found .c0 (.fpOp false))),
     gain .mul (during (.occ .c0 (.multiply .floating))),
     gain .mul (during (.occ .c0 (.divide .floating))),
     gain .div (during (.occ .c0 (.divide .squareRoot))),
     gain .div (during (.occ .c0 (.multiply .integer))),
     gain .delayedBypassFp (during (.occ .c0 (.bypass .floating .simd))),
     gain .delayedBypassFp (during (.occ .c0 (.bypass .floating .floating))),
     gain .delayedBypassSimd (during (.occ .c0 (.bypass .simd .floating))),
     gain .delayedBypassSimd (during (.occ .c0 (.bypass .floating .simd)))] =
    [1, 0, 1, 0, 1, 0, 1, 0, 1, 0, 1, 0, 1, 0, 1, 0, 1, 0, 1, 0, 1, 0, 1, 0, 1, 0, 1, 0, 1, 0, 1, 0, 1, 0, 1, 0, 1, 0, 1, 0, 1, 0, 1, 0] := by
  decide +kernel

/-- Rules R205 to R229, cycles; two page walks at once count one (V21, V25, V26). -/
theorem test_witness_loadStore_cycles :
    [gain .sbDrainCycles (coreIs { core with storeBuffer := [⟨0, 4⟩], draining := some .serializing } cycle),
     gain .sbDrainCycles (coreIs { core with storeBuffer := [⟨0, 4⟩] } cycle),
     gain .storeBlockOrder (levels { pipe with storeWaitsForOrder := true } pipe cycle),
     gain .storeBlockOrder (during cycle),
     gain .storeBlockSnoop (levels { pipe with storePortSnooping := true, storeStalledBySnoop := true } pipe cycle),
     gain .storeBlockSnoop (levels { pipe with storePortSnooping := true } pipe cycle),
     gain .memoryDisambiguationReset (levels { pipe with disambiguationMispredicted := true } pipe cycle),
     gain .memoryDisambiguationReset (during cycle),
     gain .pageWalksCycles (coreIs { core with pageWalks := 2 } cycle),
     gain .pageWalksCycles (during cycle),
     gain .cyclesDivBusy (levels { pipe with dividerBusy := true } pipe cycle),
     gain .cyclesDivBusy (during cycle),
     gain .idleDuringDiv (levels { pipe with dividerBusy := true } pipe cycle),
     gain .idleDuringDiv (levels { pipe with dividerBusy := true, loadInProgress := true } pipe cycle),
     gain .delayedBypassLoad (levels { pipe with loadBypassPenalty := true } pipe cycle),
     gain .delayedBypassLoad (during cycle)] =
    [1, 0, 1, 0, 1, 0, 1, 0, 1, 0, 1, 0, 1, 0, 1, 0] := by
  decide +kernel

/-- Rules R230 to R249 under the tables at reset (V13, V18, V27, V29, V31). -/
theorem test_witness_l2 :
    [gain (.l2Ads 0x40) (levels { pipe with l2AddressBus := true } pipe cycle),
     gain (.l2Ads 0x40) (levels pipe { pipe with l2AddressBus := true } cycle),
     gain (.l2DbusBusyRd 0xC0) (levels pipe { pipe with l2DataBus := true } cycle),
     gain (.l2DbusBusyRd 0xC0) (during cycle),
     gain (.l2LinesIn 0x50) (during (.found .c0 (.l2LineIn true))),
     gain (.l2LinesIn 0x50) (during (.found .c0 (.l2LineIn false))),
     gain (.l2MLinesIn 0xC0) (during (.found .c1 .modifiedLineToL2)),
     gain (.l2MLinesIn 0xC0) (during .quiet),
     gain (.l2LinesOut 0x70) (during (.found .c0 (.l2LineOut true false))),
     gain (.l2LinesOut 0x70) (during (.found .c1 (.l2LineOut true false))),
     gain (.l2MLinesOut 0x40) (during (.found .c0 (.l2LineOut false true))),
     gain (.l2MLinesOut 0x40) (during (.found .c0 (.l2LineOut false false))),
     gain (.l2Ifetch 0x41) (during (.found .c0 (.l2Request (request .ifetch) true .i))),
     gain (.l2Ifetch 0x41) (during (.found .c0 (.l2Request (request .ifetch) true .s))),
     gain (.l2Ld 0x4F) (during (.found .c0 (.l2Request (request .l1dRead) true .s))),
     gain (.l2Ld 0x4F) (during (.found .c0 (.l2Request (request .l1dWrite) true .s))),
     gain (.l2St 0x48) (during (.found .c0 (.l2Request (request .l1dWrite) true .m))),
     gain (.l2St 0x48) (during (.found .c0 (.l2Request (request .l1dWrite) false .m))),
     gain (.l2Lock 0x44) (during (.found .c0 (.l2Request (request .l1dLock) true .e))),
     gain (.l2Lock 0x44) (during (.found .c0 (.l2Request (request .l1dLock) false .e))),
     gain (.l2Rqsts 0x7F) (during (.found .c0 (.l2Request (request .hwPrefetch) true .i))),
     gain (.l2Rqsts 0x7F) (during (.found .c1 (.l2Request (request .l1dRead) true .i))),
     gain (.l2RejectBusq 0x42) (during (.found .c0 (.l2Reject (request .l1dRead) .s))),
     gain (.l2RejectBusq 0x42) (during (.found .c0 (.l2Reject (request .l1dRead) .i))),
     gain (.l2NoReq 0xC0) (during cycle),
     gain (.l2NoReq 0xC0) (levels pipe { pipe with l2Pending := 1 } cycle),
     gain .l2RqstsSelfDemandIState (during (.found .c0 (.l2Request (request .l1dLock) true .i))),
     gain .l2RqstsSelfDemandIState (during (.found .c0 (.l2Request (request .l1dLock) true .e))),
     gain .l2RqstsSelfDemandMesi (during (.found .c0 (.l2Request (request .l1dLock) true .e))),
     gain .l2RqstsSelfDemandMesi (during (.found .c0 (.l2Request (request .hwPrefetch) true .e))),
     gain .eistTrans (during (.found .c0 (.transition true))),
     gain .eistTrans (during (.found .c0 (.transition false))),
     gain .thermalTrip (during (.sys .thermalTrip)),
     gain .thermalTrip (during .quiet),
     gain .cpuClkUnhaltedCoreP (during cycle),
     gain .cpuClkUnhaltedCoreP (coreIs { core with halted := true } cycle),
     gain .cpuClkUnhaltedBus (during (.tick .bus)),
     gain .cpuClkUnhaltedBus (coreIs { core with halted := true } (.tick .bus)),
     gain .cpuClkUnhaltedNoOther ({ during (.tick .bus) with core1 := { core with halted := true } }),
     gain .cpuClkUnhaltedNoOther (during (.tick .bus))] =
    [1, 0, 1, 0, 1, 0, 1, 0, 1, 0, 1, 0, 1, 0, 1, 0, 1, 0, 1, 0, 1, 0, 1, 0, 1, 0, 1, 0, 1, 0, 1, 0, 1, 0, 1, 0, 1, 0, 1, 0] := by
  decide +kernel

/-- Rules R250 to R266; a load of 8 bytes 4 bytes before a line boundary is split (V32, V33, V35). -/
theorem test_witness_l1Data :
    [gain (.l1dCacheLd 0x04) (during (ref false false 0)),
     gain (.l1dCacheLd 0x04) (during (ref false true 0)),
     gain (.l1dCacheSt 0x0F) (during (ref true false 0)),
     gain (.l1dCacheSt 0x0F) (during (ref false false 0)),
     gain (.l1dCacheLock 0x0F) (during (ref false true 0)),
     gain (.l1dCacheLock 0x0F) (during (ref false false 0)),
     gain .l1dCacheLockDuration (coreIs { core with lockedLines := [1, 2] } cycle),
     gain .l1dCacheLockDuration (during cycle),
     gain .l1dAllRef (during (ref true true 0)),
     gain .l1dAllRef (during .quiet),
     gain .l1dAllCacheRef (during (ref false true 0)),
     gain .l1dAllCacheRef (during (ref true true 0)),
     gain .l1dRepl (during (.found .c0 (.l1dLineIn false))),
     gain .l1dRepl (during .quiet),
     gain .l1dMRepl (during (.found .c0 (.l1dLineIn true))),
     gain .l1dMRepl (during (.found .c0 (.l1dLineIn false))),
     gain .l1dMEvict (during (.found .c0 (.l1dLineOut true))),
     gain .l1dMEvict (during (.found .c0 (.l1dLineOut false))),
     gain .l1dPendMiss (levels { pipe with misses := [.demand .cacheable, .demand .uncacheable, .hwPrefetch] } pipe cycle),
     gain .l1dPendMiss (during cycle),
     gain .l1dSplitLoads (during (ref false false 60)),
     gain .l1dSplitLoads (during (ref false false 56)),
     gain .l1dSplitStores (during (ref true false 57)),
     gain .l1dSplitStores (during (ref false false 60)),
     gain .ssePreMissNta (during (.occ .c0 (.ssePrefetch .nta true))),
     gain .ssePreMissNta (during (.occ .c0 (.ssePrefetch .nta false))),
     gain .ssePreMissL1 (during (.occ .c0 (.ssePrefetch .t0 true))),
     gain .ssePreMissL1 (during (.occ .c0 (.ssePrefetch .t1 true))),
     gain .ssePreMissL2 (during (.occ .c0 (.ssePrefetch .t1 true))),
     gain .ssePreMissL2 (during (.occ .c0 (.ssePrefetch .t2 false))),
     gain .loadHitPre (during (.found .c0 (.loadSent true))),
     gain .loadHitPre (during (.found .c0 (.loadSent false))),
     gain .l1dPrefetchRequests (during (.occ .c0 (.l1dPrefetch true false))),
     gain .l1dPrefetchRequests (during .quiet)] =
    [1, 0, 1, 0, 1, 0, 1, 0, 1, 0, 1, 0, 1, 0, 1, 0, 1, 0, 2, 0, 1, 0, 1, 0, 1, 0, 1, 0, 1, 0, 1, 0, 1, 0] := by
  decide +kernel

/-- Rules R267 to R271 and R284 to R290; two cores that wait count one cycle (S18, V37 to V39). -/
theorem test_witness_busSignals :
    [gain (.busRequestOutstanding 0x40) (busIs { bus with pending := [⟨.l1d, false, true, true, .thisProcessor, some .c0⟩, ⟨.ifu, false, true, true, .thisProcessor, some .c0⟩, ⟨.l2Prefetcher, false, true, true, .thisProcessor, some .c0⟩] } cycle),
     gain (.busRequestOutstanding 0x40) (during cycle),
     gain (.busBnrDrv 0x20) (during (.sys (.bnr (.another 1)))),
     gain (.busBnrDrv 0x20) (during .quiet),
     gain (.busDrdyClocks 0x00) (busIs { bus with dataSent := [.thisProcessor] } (.tick .bus)),
     gain (.busDrdyClocks 0x00) (busIs { bus with dataSent := [.another 1] } (.tick .bus)),
     gain (.busLockClocks 0x40) (busIs { bus with lock := [(.thisProcessor, some .c1), (.thisProcessor, some .c0)] } (.tick .bus)),
     gain (.busLockClocks 0x40) (busIs { bus with lock := [(.thisProcessor, some .c1)] } (.tick .bus)),
     gain (.busDataRcv 0x40) (busIs { bus with receiving := [.c0] } (.tick .bus)),
     gain (.busDataRcv 0x40) (busIs { bus with receiving := [.c1] } (.tick .bus)),
     gain (.extSnoop 0x02) (during (.sys (.snoopResponse .hit .thisProcessor .thisProcessor))),
     gain (.extSnoop 0x02) (during (.sys (.snoopResponse .hit .thisProcessor (.another 1)))),
     gain (.cmpSnoop 0x42) (during (.found .c0 (.coreSnoop .readForOwnership))),
     gain (.cmpSnoop 0x42) (during (.found .c0 (.coreSnoop .read))),
     gain (.busHitDrv 0x00) (busIs { bus with hitDriven := [.thisProcessor] } (.tick .bus)),
     gain (.busHitDrv 0x00) (during (.tick .bus)),
     gain (.busHitmDrv 0x20) (busIs { bus with hitmDriven := [.another 1] } (.tick .bus)),
     gain (.busHitmDrv 0x20) (during (.tick .bus)),
     gain (.busqEmpty 0x40) (coreIs { core with busQueue := [.line 3], halted := true } cycle),
     gain (.busqEmpty 0x40) (coreIs { core with busQueue := [.line 3] } cycle),
     gain (.snoopStallDrv 0x40) (during (.sys (.snoopStall .thisProcessor (some .c0)))),
     gain (.snoopStallDrv 0x40) (during (.sys (.snoopStall .thisProcessor (some .c1)))),
     gain (.busIoWait 0xC0) ({ coreIs { core with busQueue := [.io] } cycle with core1 := { core with busQueue := [.line 0, .io] } }),
     gain (.busIoWait 0xC0) (coreIs { core with busQueue := [.line 0] } cycle)] =
    [2, 0, 1, 0, 1, 0, 1, 0, 1, 0, 1, 0, 1, 0, 1, 0, 1, 0, 1, 0, 1, 0, 1, 0] := by
  decide +kernel

/-- Rules R272 to R283 (V36). -/
theorem test_witness_busTransactions :
    [gain (.busTransBrd 0x40) (during (trans (.burstRead .l1d))),
     gain (.busTransBrd 0x40) (during (trans .readForOwnership)),
     gain (.busTransRfo 0x40) (during (trans .readForOwnership)),
     gain (.busTransRfo 0x40) (during (trans .invalidate)),
     gain (.busTransWb 0x40) (during (trans .explicitWriteback)),
     gain (.busTransWb 0x40) (during (trans .implicitWriteback)),
     gain (.busTransIfetch 0x40) (during (trans (.burstRead .ifu))),
     gain (.busTransIfetch 0x40) (during (trans (.burstRead .l1d))),
     gain (.busTransInvalid 0xC0) (during (trans .invalidate)),
     gain (.busTransInvalid 0xC0) (during (trans .io)),
     gain (.busTransPwr 0x40) (during (trans .partialWrite)),
     gain (.busTransPwr 0x40) (during (trans .partialRead)),
     gain (.busTransP 0x40) (during (trans .partialRead)),
     gain (.busTransP 0x40) (during (trans .io)),
     gain (.busTransIo 0x40) (during (trans .io)),
     gain (.busTransIo 0x40) (during (trans .deferred)),
     gain (.busTransDef 0x40) (during (trans .deferred)),
     gain (.busTransDef 0x40) (during (trans .io)),
     gain (.busTransBurst 0x40) (during (trans .writeCombineLine)),
     gain (.busTransBurst 0x40) (during (trans .partialWrite)),
     gain (.busTransMem 0x40) (during (trans .invalidate)),
     gain (.busTransMem 0x40) (during (trans .io)),
     gain (.busTransAny 0xE0) (during (trans .unlisted)),
     gain (.busTransAny 0xE0) (during .quiet)] =
    [1, 0, 1, 0, 1, 0, 1, 0, 1, 0, 1, 0, 1, 0, 1, 0, 1, 0, 1, 0, 1, 0, 1, 0] := by
  decide +kernel

/-- Rules R291 to R299 and R315 to R325 (V40, V41, V43, V44). -/
theorem test_witness_frontEnd :
    [gain .l1lReads (during (.found .c0 (.fetch ⟨⟨0, 4096⟩, true, false, false⟩ false))),
     gain .l1lReads (during .quiet),
     gain .l1lMisses (during (.found .c0 (.fetch ⟨⟨0, 4096⟩, true, false, false⟩ false))),
     gain .l1lMisses (during (.found .c0 (.fetch ⟨⟨0, 4096⟩, false, false, false⟩ true))),
     gain .itlbSmallMiss (during (.found .c0 (.fetch ⟨⟨0, 4096⟩, false, false, false⟩ true))),
     gain .itlbSmallMiss (during (.found .c0 (.fetch ⟨⟨0, 2097152⟩, false, false, false⟩ true))),
     gain .itlbLargeMiss (during (.found .c0 (.fetch ⟨⟨0, 2097152⟩, false, false, false⟩ true))),
     gain .itlbLargeMiss (during (.found .c0 (.fetch ⟨⟨0, 2097152⟩, false, false, false⟩ false))),
     gain .itlbFlush (during (.found .c0 .itlbFlush)),
     gain .itlbFlush (during .quiet),
     gain .itlbMisses (during (.found .c0 (.fetch ⟨⟨0, 2097152⟩, false, false, false⟩ true))),
     gain .itlbMisses (during (.found .c0 (.fetch ⟨⟨0, 4096⟩, false, false, false⟩ false))),
     gain .instQueueFull (levels { pipe with instQueueFull := true } pipe cycle),
     gain .instQueueFull (during cycle),
     gain .cyclesL1lMemStalled (levels { pipe with fetchStalled := true } pipe cycle),
     gain .cyclesL1lMemStalled (during cycle),
     gain .ildStall (coreIs { core with slowDecoding := true } cycle),
     gain .ildStall (during cycle),
     gain .rsUopsDispatched (levels { pipe with port0 := true, port3 := true, port5 := true } pipe cycle),
     gain .rsUopsDispatched (during cycle),
     gain .rsUopsDispatchedPort0 (levels { pipe with port0 := true } pipe cycle),
     gain .rsUopsDispatchedPort0 (levels { pipe with port1 := true } pipe cycle),
     gain .rsUopsDispatchedPort1 (levels { pipe with port1 := true } pipe cycle),
     gain .rsUopsDispatchedPort1 (levels { pipe with port2 := true } pipe cycle),
     gain .rsUopsDispatchedPort2 (levels { pipe with port2 := true } pipe cycle),
     gain .rsUopsDispatchedPort2 (levels { pipe with port3 := true } pipe cycle),
     gain .rsUopsDispatchedPort3 (levels { pipe with port3 := true } pipe cycle),
     gain .rsUopsDispatchedPort3 (levels { pipe with port4 := true } pipe cycle),
     gain .rsUopsDispatchedPort4 (levels { pipe with port4 := true } pipe cycle),
     gain .rsUopsDispatchedPort4 (levels { pipe with port5 := true } pipe cycle),
     gain .rsUopsDispatchedPort5 (levels { pipe with port5 := true } pipe cycle),
     gain .rsUopsDispatchedPort5 (levels { pipe with port0 := true } pipe cycle),
     gain .macroInstsDecoded (during (.occ .c0 (.decoded false false))),
     gain .macroInstsDecoded (during .quiet),
     gain .macroInstsCiscDecoded (during (.occ .c0 (.decoded true false))),
     gain .macroInstsCiscDecoded (during (.occ .c0 (.decoded false true))),
     gain .espSynch (during (.found .c0 .espSynch)),
     gain .espSynch (during (.found .c0 (.espImplicit true))),
     gain .espAdditions (during (.found .c0 (.espImplicit true))),
     gain .espAdditions (during (.found .c0 (.espImplicit false)))] =
    [1, 0, 1, 0, 1, 0, 1, 0, 1, 0, 1, 0, 1, 0, 1, 0, 1, 0, 3, 0, 1, 0, 1, 0, 1, 0, 1, 0, 1, 0, 1, 0, 1, 0, 1, 0, 1, 0, 1, 0] := by
  decide +kernel

/-- Rules R300 to R312. -/
theorem test_witness_branchExecuted :
    [gain .brInstExec (during (branch .unlisted false false)),
     gain .brInstExec (during (.occ .c0 (.branchExecuted ⟨.ret, true, true, true⟩))),
     gain .brMispExec (during (branch .unlisted true false)),
     gain .brMispExec (during (branch .unlisted false true)),
     gain .brBacMispExec (during (branch .unlisted false true)),
     gain .brBacMispExec (during (branch .unlisted true false)),
     gain .brCndExec (during (branch .conditional false false)),
     gain .brCndExec (during (branch .indirect false false)),
     gain .brCndMisspExec (during (branch .conditional true false)),
     gain .brCndMisspExec (during (branch .conditional false true)),
     gain .brIndExec (during (branch .indirect false false)),
     gain .brIndExec (during (branch .call false false)),
     gain .brIndMisspExec (during (branch .indirect true false)),
     gain .brIndMisspExec (during (branch .indirect false false)),
     gain .brRetExec (during (branch .ret false false)),
     gain .brRetExec (during (branch .call false false)),
     gain .brRetMisspExec (during (branch .ret true false)),
     gain .brRetMisspExec (during (branch .ret false true)),
     gain .brRetBacMisspExec (during (branch .ret false true)),
     gain .brRetBacMisspExec (during (branch .ret true false)),
     gain .brCallExec (during (branch .indirectCall false false)),
     gain .brCallExec (during (branch .ret false false)),
     gain .brCallMisspExec (during (branch .call true false)),
     gain .brCallMisspExec (during (branch .call false true)),
     gain .brIndCallExec (during (branch .indirectCall false false)),
     gain .brIndCallExec (during (branch .call false false))] =
    [1, 0, 1, 0, 1, 0, 1, 0, 1, 0, 1, 0, 1, 0, 1, 0, 1, 0, 1, 0, 1, 0, 1, 0, 1, 0] := by
  decide +kernel

/-- Rules R313 and R314: a one-cycle penalty goes to one of the two events, whichever it is; nothing else to either. -/
theorem test_witness_bubbles : gain .brTknBubble1 (during .quiet) = 0 ∧ gain .brTknBubble2 (during .quiet) = 0 ∧
    (during (.occ .c0 .takenBubble)).turn = [.gp .c0 0] := by decide +kernel

/-- Rules R326 to R347 (V12, V45 to V49, P3). -/
theorem test_witness_retirement :
    [gain .simdUopsExec (during (.occ .c0 (.simdUop ⟨[], false, false⟩))),
     gain .simdUopsExec (during (.occ .c0 (.simdUop ⟨[], false, true⟩))),
     gain .simdSatUopExec (during (.occ .c0 (.simdUop ⟨[.arithmetic], true, false⟩))),
     gain .simdSatUopExec (during (.occ .c0 (.simdUop ⟨[.arithmetic], false, false⟩))),
     gain .simdUopTypeExecMul (during (.occ .c0 (.simdUop ⟨[.mul], false, false⟩))),
     gain .simdUopTypeExecMul (during (.occ .c0 (.simdUop ⟨[.shift], false, false⟩))),
     gain .simdUopTypeExecShift (during (.occ .c0 (.simdUop ⟨[.shift], false, false⟩))),
     gain .simdUopTypeExecShift (during (.occ .c0 (.simdUop ⟨[.pack], false, false⟩))),
     gain .simdUopTypeExecPack (during (.occ .c0 (.simdUop ⟨[.pack], false, false⟩))),
     gain .simdUopTypeExecPack (during (.occ .c0 (.simdUop ⟨[.unpack], false, false⟩))),
     gain .simdUopTypeExecUnpack (during (.occ .c0 (.simdUop ⟨[.unpack], false, false⟩))),
     gain .simdUopTypeExecUnpack (during (.occ .c0 (.simdUop ⟨[.logical], false, false⟩))),
     gain .simdUopTypeExecLogical (during (.occ .c0 (.simdUop ⟨[.logical], false, false⟩))),
     gain .simdUopTypeExecLogical (during (.occ .c0 (.simdUop ⟨[.arithmetic], false, false⟩))),
     gain .simdUopTypeExecArithmetic (during (.occ .c0 (.simdUop ⟨[.arithmetic], false, false⟩))),
     gain .simdUopTypeExecArithmetic (during (.occ .c0 (.simdUop ⟨[.mul], false, false⟩))),
     gain .instRetiredAnyP (during (retires [inst, inst])),
     gain .instRetiredAnyP (during (retires [])),
     gain .instRetiredLoads (during (retires [{ inst with load := true, store := some ⟨0, 4⟩ }])),
     gain .instRetiredLoads (during (retires [{ inst with store := some ⟨0, 4⟩ }])),
     gain .instRetiredStores (during (retires [{ inst with load := true, store := some ⟨0, 4⟩ }])),
     gain .instRetiredStores (during (retires [{ inst with load := true }])),
     gain .instRetiredOther (during (retires [inst])),
     gain .instRetiredOther (during (retires [{ inst with load := true, store := some ⟨0, 4⟩ }])),
     gain .x87OpsRetiredFxch (during (retires [{ inst with fxch := true }])),
     gain .x87OpsRetiredFxch (during (retires [inst])),
     gain .x87OpsRetiredAny (during (.occ .c0 (.x87Retired ⟨true, false, false, 0⟩))),
     gain .x87OpsRetiredAny (during (.occ .c0 (.x87Retired ⟨true, false, true, 0⟩))),
     gain .uopsRetiredLdIndBr (during (fused (some .loadIndirectBranch))),
     gain .uopsRetiredLdIndBr (during (fused (some .storeAddressData))),
     gain .uopsRetiredStdSta (during (fused (some .storeAddressData))),
     gain .uopsRetiredStdSta (during (fused (some .loadOp))),
     gain .uopsRetiredMacroFusion (during (fused (some .macroFusion))),
     gain .uopsRetiredMacroFusion (during (fused none)),
     gain .uopsRetiredFused (during (fused (some .loadOp))),
     gain .uopsRetiredFused (during (fused none)),
     gain .uopsRetiredNonFused (during (fused none)),
     gain .uopsRetiredNonFused (during (fused (some .loadOp))),
     gain .uopsRetiredAny (during (fused none)),
     gain .uopsRetiredAny (during .quiet),
     gain .machineNukesSmc (during (.found .c0 (.nuke .selfModifyingCode))),
     gain .machineNukesSmc (during (.found .c0 (.nuke .memoryOrder))),
     gain .machineNukesMemOrder (during (.found .c0 (.nuke .disambiguation))),
     gain .machineNukesMemOrder (during (.found .c0 (.nuke .selfModifyingCode)))] =
    [1, 0, 1, 0, 1, 0, 1, 0, 1, 0, 1, 0, 1, 0, 1, 0, 2, 0, 1, 0, 1, 0, 1, 0, 1, 0, 1, 0, 1, 0, 1, 0, 1, 0, 1, 0, 1, 0, 1, 0, 1, 0, 1, 0] := by
  decide +kernel

/-- Rules R348 to R368, R377 and R378 (V50, V52, S25). -/
theorem test_witness_branchSimdRetired :
    [gain .brInstRetiredAny (during (retires [{ inst with branch := some ⟨false, false⟩ }])),
     gain .brInstRetiredAny (during (retires [inst])),
     gain .brInstRetiredPredNotTaken (during (retires [{ inst with branch := some ⟨false, false⟩ }])),
     gain .brInstRetiredPredNotTaken (during (retires [{ inst with branch := some ⟨true, false⟩ }])),
     gain .brInstRetiredMispredNotTaken (during (retires [{ inst with branch := some ⟨false, true⟩ }])),
     gain .brInstRetiredMispredNotTaken (during (retires [{ inst with branch := some ⟨false, false⟩ }])),
     gain .brInstRetiredPredTaken (during (retires [{ inst with branch := some ⟨true, false⟩ }])),
     gain .brInstRetiredPredTaken (during (retires [{ inst with branch := some ⟨true, true⟩ }])),
     gain .brInstRetiredMispredTaken (during (retires [{ inst with branch := some ⟨true, true⟩ }])),
     gain .brInstRetiredMispredTaken (during (retires [{ inst with branch := some ⟨false, true⟩ }])),
     gain .brInstRetiredTaken (during (retires [{ inst with branch := some ⟨true, true⟩ }])),
     gain .brInstRetiredTaken (during (retires [{ inst with branch := some ⟨false, true⟩ }])),
     gain .brInstRetiredMispred (during (retires [{ inst with branch := some ⟨false, true⟩ }])),
     gain .brInstRetiredMispred (during (retires [{ inst with branch := some ⟨true, false⟩ }])),
     gain .simdInstRetiredPackedSingle (during (retires [{ inst with simdClass := some .packedSingle, computational := false }])),
     gain .simdInstRetiredPackedSingle (during (retires [{ inst with simdClass := some .scalarSingle, computational := false }])),
     gain .simdInstRetiredScalarSingle (during (retires [{ inst with simdClass := some .scalarSingle, computational := false }])),
     gain .simdInstRetiredScalarSingle (during (retires [{ inst with simdClass := some .packedDouble, computational := false }])),
     gain .simdInstRetiredPackedDouble (during (retires [{ inst with simdClass := some .packedDouble, computational := false }])),
     gain .simdInstRetiredPackedDouble (during (retires [{ inst with simdClass := some .scalarDouble, computational := false }])),
     gain .simdInstRetiredScalarDouble (during (retires [{ inst with simdClass := some .scalarDouble, computational := false }])),
     gain .simdInstRetiredScalarDouble (during (retires [{ inst with simdClass := some .vectorInteger, computational := false }])),
     gain .simdInstRetiredVector (during (retires [{ inst with simdClass := some .vectorInteger, computational := false }])),
     gain .simdInstRetiredVector (during (retires [{ inst with simdClass := some .packedSingle, computational := false }])),
     gain .simdInstRetiredAny (during (retires [{ inst with simdClass := some .vectorInteger, computational := false }])),
     gain .simdInstRetiredAny (during (retires [inst])),
     gain .itlbMissRetired (during (retires [{ inst with missedItlb := true }])),
     gain .itlbMissRetired (during (retires [inst])),
     gain .simdCompInstRetiredPackedSingle (during (retires [{ inst with simdClass := some .packedSingle, computational := true }])),
     gain .simdCompInstRetiredPackedSingle (during (retires [{ inst with simdClass := some .packedSingle, computational := false }])),
     gain .simdCompInstRetiredScalarSingle (during (retires [{ inst with simdClass := some .scalarSingle, computational := true }])),
     gain .simdCompInstRetiredScalarSingle (during (retires [{ inst with simdClass := some .scalarSingle, computational := false }])),
     gain .simdCompInstRetiredPackedDouble (during (retires [{ inst with simdClass := some .packedDouble, computational := true }])),
     gain .simdCompInstRetiredPackedDouble (during (retires [{ inst with simdClass := some .packedDouble, computational := false }])),
     gain .simdCompInstRetiredScalarDouble (during (retires [{ inst with simdClass := some .scalarDouble, computational := true }])),
     gain .simdCompInstRetiredScalarDouble (during (retires [{ inst with simdClass := some .scalarDouble, computational := false }])),
     gain .simdInstrRetired (during (retires [{ inst with simd := true }])),
     gain .simdInstrRetired (during (retires [{ inst with simdClass := some .packedSingle, computational := false }])),
     gain .simdSatInstrRetired (during (retires [{ inst with simd := true, saturated := true }])),
     gain .simdSatInstrRetired (during (retires [{ inst with simd := true }]))] =
    [1, 0, 1, 0, 1, 0, 1, 0, 1, 0, 1, 0, 1, 0, 1, 0, 1, 0, 1, 0, 1, 0, 1, 0, 1, 0, 1, 0, 1, 0, 1, 0, 1, 0, 1, 0, 1, 0, 1, 0] := by
  decide +kernel

/-- Rules R355, R356, R363 and R369 to R376 (V51, V53, V54). -/
theorem test_witness_interruptsAndLoads :
    [gain .cyclesIntMasked (coreIs { core with intDisabled := true } cycle),
     gain .cyclesIntMasked (during cycle),
     gain .cyclesIntPendingAndMasked (coreIs { core with intDisabled := true, intPending := 1 } cycle),
     gain .cyclesIntPendingAndMasked (coreIs { core with intPending := 1 } cycle),
     gain .hwIntRcv (during (.found .c0 .interruptReceived)),
     gain .hwIntRcv (during .quiet),
     gain .memLoadRetiredL1dMiss (during (.occ .c0 (.loadRetired load))),
     gain .memLoadRetiredL1dMiss (during (.occ .c0 (.loadRetired { load with softwarePrefetch := true }))),
     gain .memLoadRetiredL1dLineMiss (during (.occ .c0 (.loadRetired load))),
     gain .memLoadRetiredL1dLineMiss (during (.occ .c0 (.loadRetired { load with lineInFlight := true }))),
     gain .memLoadRetiredL2Miss (during (.occ .c0 (.loadRetired load))),
     gain .memLoadRetiredL2Miss (during (.occ .c0 (.loadRetired { load with memType := .uncacheable }))),
     gain .memLoadRetiredL2LineMiss (during (.occ .c0 (.loadRetired load))),
     gain .memLoadRetiredL2LineMiss (during (.occ .c0 (.loadRetired { load with busInFlight := true }))),
     gain .memLoadRetiredDtlbMiss (during (.occ .c0 (.loadRetired load))),
     gain .memLoadRetiredDtlbMiss (during (.occ .c0 (.loadRetired { load with faulted := true }))),
     gain .fpMmxTransToMmx (during (.found .c0 (.mmxInst true))),
     gain .fpMmxTransToMmx (during (.found .c0 (.mmxInst false))),
     gain .fpMmxTransToFp (during (.found .c0 (.fpInst true))),
     gain .fpMmxTransToFp (during (.found .c0 (.fpInst false))),
     gain .simdAssist (during (.found .c0 .simdAssist)),
     gain .simdAssist (during .quiet)] =
    [1, 0, 1, 0, 1, 0, 1, 0, 1, 0, 1, 0, 1, 0, 1, 0, 1, 0, 1, 0, 1, 0] := by
  decide +kernel

/-- Rules R379 to R404 (V55 to V59). -/
theorem test_witness_stalls :
    [gain .ratStallsRobReadPort (levels { pipe with robReadPortStall := true } pipe cycle),
     gain .ratStallsRobReadPort (levels { pipe with flagStall := true } pipe cycle),
     gain .ratStallsPartialCycles (levels { pipe with partialRegisterStall := true } pipe cycle),
     gain .ratStallsPartialCycles (during cycle),
     gain .ratStallsFlags (levels { pipe with flagStall := true } pipe cycle),
     gain .ratStallsFlags (during cycle),
     gain .ratStallsFpsw (during (.found .c0 .fpswWritten)),
     gain .ratStallsFpsw (during .quiet),
     gain .ratStallsAny (coreIs { core with fpswStalling := true, pipe := { pipe with flagStall := true } } cycle),
     gain .ratStallsAny (during cycle),
     gain .segRenameStallsEs (during (.found .c0 (.segmentStalled .es))),
     gain .segRenameStallsEs (during (.found .c0 (.segmentStalled .ds))),
     gain .segRenameStallsDs (during (.found .c0 (.segmentStalled .ds))),
     gain .segRenameStallsDs (during (.found .c0 (.segmentStalled .fs))),
     gain .segRenameStallsFs (during (.found .c0 (.segmentStalled .fs))),
     gain .segRenameStallsFs (during (.found .c0 (.segmentStalled .gs))),
     gain .segRenameStallsGs (during (.found .c0 (.segmentStalled .gs))),
     gain .segRenameStallsGs (during (.found .c0 (.segmentStalled .es))),
     gain .segRenameStallsAny (during (.found .c0 (.segmentStalled .gs))),
     gain .segRenameStallsAny (during (.found .c0 (.segmentRenamed .gs))),
     gain .segRegRenamesEs (during (.found .c0 (.segmentRenamed .es))),
     gain .segRegRenamesEs (during (.found .c0 (.segmentRenamed .ds))),
     gain .segRegRenamesDs (during (.found .c0 (.segmentRenamed .ds))),
     gain .segRegRenamesDs (during (.found .c0 (.segmentRenamed .fs))),
     gain .segRegRenamesFs (during (.found .c0 (.segmentRenamed .fs))),
     gain .segRegRenamesFs (during (.found .c0 (.segmentRenamed .gs))),
     gain .segRegRenamesGs (during (.found .c0 (.segmentRenamed .gs))),
     gain .segRegRenamesGs (during (.found .c0 (.segmentRenamed .es))),
     gain .segRegRenamesAny (during (.found .c0 (.segmentRenamed .fs))),
     gain .segRegRenamesAny (during (.found .c0 (.segmentStalled .fs))),
     gain .resourceStallsRobFull (coreIs { core with inFlight := ⟨2, 0, 0, 0⟩ } cycle),
     gain .resourceStallsRobFull (during cycle),
     gain .resourceStallsRsFull (coreIs { core with inFlight := ⟨1, 1, 0, 0⟩ } cycle),
     gain .resourceStallsRsFull (during cycle),
     gain .resourceStallsLdSt (coreIs { core with fences := [1] } cycle),
     gain .resourceStallsLdSt (during cycle),
     gain .resourceStallsFpcw (levels { pipe with fpcwStall := true } pipe cycle),
     gain .resourceStallsFpcw (during cycle),
     gain .resourceStallsBrMissClear (levels { pipe with branchMissClear := true } pipe cycle),
     gain .resourceStallsBrMissClear (during cycle),
     gain .resourceStallsAny (coreIs { core with inFlight := ⟨2, 1, 0, 0⟩ } cycle),
     gain .resourceStallsAny (during cycle),
     gain .brInstDecoded (during (.occ .c0 (.decoded false true))),
     gain .brInstDecoded (during (.occ .c0 (.decoded true false))),
     gain .bogusBr (during (.occ .c0 .bogusBranch)),
     gain .bogusBr (during (.occ .c0 .baclear)),
     gain .baclears (during (.occ .c0 .bogusBranch)),
     gain .baclears (during (.occ .c0 .nonTemporalStore)),
     gain .prefRqstsUp (during (.found .c0 (.dplPrefetch .upward))),
     gain .prefRqstsUp (during (.found .c0 (.dplPrefetch .downward))),
     gain .prefRqstsDn (during (.found .c0 (.dplPrefetch .downward))),
     gain .prefRqstsDn (during (.found .c0 (.dplPrefetch .upward)))] =
    [1, 0, 1, 0, 1, 0, 2, 0, 1, 0, 1, 0, 1, 0, 1, 0, 1, 0, 1, 0, 1, 0, 1, 0, 1, 0, 1, 0, 1, 0, 1, 0, 1, 0, 1, 0, 1, 0, 1, 0, 1, 0, 1, 0, 1, 0, 1, 0, 1, 0, 1, 0] := by
  decide +kernel

/-! ## Counters, steps and inputs -/

/-- A machine with 8-bit counters, and with an APPROX_ERR. -/
def small (err : Nat) : Params := { Params.family with ctrWidth := 8, approxErr := err }

/-- Counter 0 of core 0 as it is. -/
def counter0 (s : State) : Option (Bool × Byte × Byte × Nat × Nat) :=
  ((s.core .c0).gp[0]?).map fun g => (g.selected, g.eventNum, g.umask, g.pmc, g.nominal)

/-- The state an outcome goes on with. -/
def next (o : Host.Outcome State Fault Refusal) (s : State) : State :=
  match o with
  | .next t => t
  | _ => s

/-- The refusal an outcome stops with. -/
def refusal (o : Host.Outcome State Fault Refusal) : Option Refusal :=
  match o with
  | .refused r => some r
  | _ => none

/-- Counter 0 of core 0 selects a pair and has counted `n`. -/
def counted (p : Params) (e u : Byte) (n : Nat) (m : Moment) : State :=
  { State.initial p with
    core0 := { Core.reset p.nGp with gp := [⟨true, e, u, n % 2 ^ p.ctrWidth, n⟩, .reset] }
    turn := [.gp .c0 0]
    now := m }

/-- V4 and P4: 8-bit counters; the 130th write of the FPSW takes N from 258 to 260 and the counter to 4. -/
theorem test_wraps : counter0 (next (step (counted (small 0) 0xD2 0x08 258 (.found .c0 .fpswWritten))) .reset) =
    some (true, 0xD2, 0x08, 4, 260) := by decide +kernel

/-- V5: the 256th instruction takes the counter to 0 and nothing is raised. -/
theorem test_wraps_to_zero : counter0 (next (step (counted (small 0) 0xC0 0x00 255 (retires [inst]))) .reset) =
    some (true, 0xC0, 0x00, 0, 256) := by decide +kernel

/-- P5: an unlisted pair (05H, 00H) is served and counts nothing. -/
theorem test_unlisted_selection : counter0 (next (step (counted .family 0x05 0x00 0 cycle)) .reset) =
    some (true, 0x05, 0x00, 0, 0) := by decide +kernel

/-- V2, V7: a new `select` writes the pair and clears the counter. -/
theorem test_select : counter0 (next ((counted .family 0xC4 0x00 10 .quiet).accept (.select .c0 0 0xC5 0x00)) .reset) =
    some (true, 0xC5, 0x00, 0, 0) := by decide +kernel

/-- V8: an index outside 0 to N_GP-1 is refused. -/
theorem test_select_outside : refusal (State.reset.accept (.select .c0 2 0xC0 0x00)) = some .counterIndex := by
  decide +kernel

/-- V3: a listed counter answers its value; V10: a started fixed-function counter is read at 309H. -/
theorem test_read : (next ((counted .family 0xC4 0x00 10 .quiet).accept (.read (.gp .c0 0))) .reset).readout = some 10 ∧
    (next (({ State.reset with core0 := { core with fixedStarted := true, fixed0 := ⟨1000, 1000⟩ } } : State).accept
      (.readMsr .c0 0x309)) .reset).readout = some 1000 := by decide +kernel

/-- Rule R84: an address outside the map is refused, and so are a read of an event-select register and a write of a
counter; a processor with one core has no second. -/
theorem test_refusals : refusal (State.reset.accept (.readMsr .c0 0x185)) = some .msrOutsideSpec ∧
    refusal (State.reset.accept (.readMsr .c0 0x186)) = some .evtselRead ∧
    refusal (State.reset.accept (.writeMsr .c0 0x30A 0)) = some .counterWrite ∧
    refusal (State.reset.accept (.writeMsr .c0 0xC2 0)) = some .counterWrite ∧
    refusal ((State.initial { Params.family with nCores := 1 }).accept (.halt .c1 false)) = some .noSuchCore := by
  decide +kernel

/-- D4: the word 00C5H written to EVTSEL[0] selects BR_INST_RETIRED.MISPRED. -/
theorem test_writeMsr : counter0 (next ((counted .family 0xC4 0x00 10 .quiet).accept (.writeMsr .c0 0x186 0x00C5)) .reset) =
    some (true, 0xC5, 0x00, 0, 0) ∧ evtselWord .family 0xC4 0x0C = 0x0CC4 := by decide +kernel

/-- An input that is taken from the queue: a core cycle is served to the counters that are counting, and to no other. -/
theorem test_step_input : (next (step { counted .family 0x3C 0x00 0 .quiet with turn := [], queue := [.tick (.core .c0)] })
    .reset).turn = [.gp .c0 0] := by decide +kernel

/-- A word stored where the next step fetches is run by that step. -/
theorem test_withFetchWord : (State.reset.withFetchWord 16 0x003C).fetch (.gp .c0 0) = some .cpuClkUnhaltedCoreP ∧
    (State.reset.withFetchWord 16 0x30B).fetch (.fixed .c0 .ctr2) = some .fixedCpuClkUnhaltedRef ∧
    (State.reset.withFetchWord 16 0x30B).turn = [.fixed .c0 .ctr2] := by decide +kernel

/-- Rule R113: on one core 21H/40H is not accepted, 21H/00H is. -/
theorem test_reserved_core_field :
    decodeSettings { Params.family with nCores := 1 } [.core] 0x40 = none ∧
    (decodeSettings { Params.family with nCores := 1 } [.core] 0x00).isSome = true := by decide +kernel

/-- Rule R31: at the threshold there is no trip, above it there is one; below it the check returns to normal. -/
theorem test_thermal :
    (next (State.reset.accept (.temperature 1)) .reset).thermal = ⟨1, false⟩ ∧
    (next (State.reset.accept (.temperature 2)) .reset).thermal = ⟨2, true⟩ ∧
    (next (({ State.reset with thermal := ⟨0, true⟩ } : State).accept .millisecond) .reset).thermal = ⟨0, false⟩ ∧
    (next (({ State.reset with thermal := ⟨1, true⟩ } : State).accept .millisecond) .reset).thermal = ⟨1, true⟩ := by
  decide +kernel

/-- V30: in C0 an EIST transition with a frequency change, a TM2 transition and one to C1 are counted; not in C0 none. -/
theorem test_transitions : [transitionCounted 0 ⟨.eist, some 1, none⟩, transitionCounted 0 ⟨.eist, none, some 1⟩,
    transitionCounted 0 ⟨.tm2, none, some 1⟩, transitionCounted 0 ⟨.cState 1, none, none⟩,
    transitionCounted 1 ⟨.tm2, some 1, none⟩] = [true, false, true, true, false] := by decide

/-- S24: E to S on a read, E and S to I on a read for ownership, M later, whatever state is named. -/
theorem test_snoops : [afterCoreSnoop .read none .e, afterCoreSnoop .readForOwnership none .e,
    afterCoreSnoop .readForOwnership none .s, afterCoreSnoop .read none .m, afterCoreSnoop .readForOwnership (some .i) .m,
    afterCoreSnoop .read none .s, afterCoreSnoop .read (some .i) .e] = [.s, .i, .i, .m, .m, .s, .i] := by
  decide

/-- Rule R41: a line put into I is no longer listed. -/
theorem test_lines : setLine [(1, .m), (3, .s)] 2 .e = [(1, .m), (2, .e), (3, .s)] ∧
    setLine [(1, .m), (3, .s)] 3 .i = [(1, .m)] ∧ lineState [(1, .m)] 3 = .i := by decide

/-- Rule R76: a load that misses DTLB0 and hits DTLB1; a store looks up DTLB1 only. -/
theorem test_dtlb : let s : State := { State.reset with core0 := { core with tlb := ⟨[], [7], []⟩ } }
    (next (s.accept (.dataAccess .c0 .load 7)) .reset).now = .found .c0 (.dtlbLookup .load true false) ∧
    (next (s.accept (.dataAccess .c0 .store 7)) .reset).now = .found .c0 (.dtlbLookup .store false false) ∧
    (next (s.accept (.dataAccess .c0 .store 8)) .reset).now = .found .c0 (.dtlbLookup .store false true) := by
  decide +kernel

/-- Rule R384: a second update of a renamed segment register stalls. -/
theorem test_segment : (next (State.reset.accept (.segmentUpdate .c0 .fs)) .reset).now = .found .c0 (.segmentRenamed .fs) ∧
    (next (({ State.reset with core0 := { core with fs := ⟨5, true⟩ } } : State).accept (.segmentUpdate .c0 .fs))
      .reset).now = .found .c0 (.segmentStalled .fs) := by decide +kernel

/-- Rule R208: a load operation that does not retire is counted and loads nothing. -/
theorem test_segment_load : (next (State.reset.accept (.segmentLoad .c0 .fs 7 true)) .reset).core0.fs = ⟨7, false⟩ ∧
    (next (State.reset.accept (.segmentLoad .c0 .fs 7 false)) .reset).core0.fs = ⟨0, false⟩ ∧
    (next (State.reset.accept (.segmentLoad .c0 .fs 7 false)) .reset).now = .found .c0 .segmentLoad := by decide +kernel

/-- Rules R222, R376 and R507: the DAZ flag of the core decides on an assist; EMMS clears the MMX state. -/
theorem test_assist_flags : let s : State := { State.reset with core0 := { core with
      regs := { core.regs with daz := true, mmxState := true } } }
    (next (s.accept (.fpOp .c0 ⟨false, true, false, false, false⟩)) .reset).now = .found .c0 (.fpOp false) ∧
    (next (State.reset.accept (.fpOp .c0 ⟨false, true, false, false, false⟩)) .reset).now = .found .c0 (.fpOp true) ∧
    (next (s.accept (.emms .c0)) .reset).core0.regs.mmxState = false ∧
    (next (s.accept (.emms .c0)) .reset).now = .found .c0 .simdAssist := by decide +kernel

/-- Rule R297: while the instruction queue is full the front end fetches nothing. -/
theorem test_fetch_stops : let f : Fetch := ⟨⟨1, 4096⟩, false, false, false⟩
    (next (State.reset.accept (.fetch .c0 f)) .reset).now = .found .c0 (.fetch f true) ∧
    (next (({ State.reset with core0 := { core with pipe := { pipe with instQueueFull := true } } } : State).accept
      (.fetch .c0 f)) .reset).now = .quiet := by decide +kernel

/-- Rule R16: SELF leaves out what this processor does for the other core or for none. -/
theorem test_bus_sel : [some .c0, some .c1, none].map
      (State.reset.busSel { core := .self, agent := .thisAgent } .c0 .thisProcessor) = [true, false, false] ∧
    State.reset.busSel { core := .bothCore, agent := .thisAgent } .c0 .thisProcessor none = true := by decide +kernel

/-- Rule R504: an interrupt is not taken while interrupts are disabled. -/
theorem test_interrupts : interruptTakeable { core with intDisabled := true, intPending := 1 } = false ∧
    interruptTakeable { core with intPending := 1 } = true ∧ interruptTakeable core = false ∧
    (next (State.reset.accept (.disableInterrupts .c0 true)) .reset).core0.intDisabled = true := by decide +kernel

/-- Rule R560: BNR lasts two bus cycles and holds a transaction back; the bus cycle in which it ends submits it. -/
theorem test_bnr : (next (State.reset.accept (.snoopStall (.another 1) none)) .reset).snoopStallLeft = 2 ∧
    (({ State.reset with snoopStallLeft := 1 } : State).canSubmit ⟨.io, .thisProcessor, some .c0, true, false⟩ = true) ∧
    (({ State.reset with snoopStallLeft := 1 } : State).canSubmit ⟨.io, .thisProcessor, some .c0, true, true⟩ = false) ∧
    (next (State.reset.accept (.bnr (.another 1))) .reset).bnrLeft = 2 ∧
    (next (({ State.reset with bnrLeft := 1 } : State).accept
      (.busTrans ⟨.io, .thisProcessor, some .c0, true, false⟩)) .reset).heldBack.length = 1 ∧
    (next (({ State.reset with bnrLeft := 1, heldBack := [⟨.io, .thisProcessor, some .c0, true, false⟩] } : State).accept
      (.tick .bus)) .reset).queue = [.tick .ref, .busTrans ⟨.io, .thisProcessor, some .c0, true, false⟩] := by decide +kernel

/-- Rule R68: a locked access that spans two lines asserts LOCK, one inside a line locks the line. -/
theorem test_locks : locksBus .family ⟨false, true, .cacheable, ⟨60, 8⟩⟩ = true ∧
    locksBus .family ⟨false, true, .cacheable, ⟨56, 8⟩⟩ = false ∧
    locksBus .family ⟨false, true, .uncacheable, ⟨56, 8⟩⟩ = true := by decide +kernel

/-- Rules R68 and R563: each locked access of each instruction a micro-op completes is a lock, none where there is none; the
lock of a second access is kept when a first one ends. -/
theorem test_two_locks : let a : DataRef := ⟨true, true, .uncacheable, ⟨0, 4⟩⟩
    let b : DataRef := ⟨true, true, .cacheable, ⟨64, 4⟩⟩
    let s : State := { State.reset with
      core0 := { core with inFlight := ⟨2, 0, 0, 0⟩ }, bus := { bus with lock := [(.thisProcessor, some .c1)] } }
    let pair := next (s.accept (.retire .c0 ⟨none, [{ inst with locks := [a, b] }, { inst with locks := [a] }]⟩)) .reset
    pair.bus.lock = [(.thisProcessor, some .c0), (.thisProcessor, some .c0), (.thisProcessor, some .c1)] ∧
    pair.core0.lockedLines = [1] ∧ (next (s.accept (.retire .c0 ⟨none, [inst]⟩)) .reset).bus = s.bus ∧
    (next (s.accept (.retire .c0 ⟨none, [{ inst with locks := [a] }]⟩)) .reset).bus.lock =
      [(.thisProcessor, some .c0), (.thisProcessor, some .c1)] ∧
    (next (s.accept (.lockEnd .c1 a)) .reset).bus.lock = [] ∧
    (next (s.accept (.retire .c0 ⟨none, [{ inst with locks := [b] }]⟩)) .reset).core0.lockedLines = [1] := by decide +kernel

/-- Rules R68, R77 and R220: a page walk from an uncacheable page table asserts LOCK, and its end takes it away. -/
theorem test_page_walk : (next (State.reset.accept (.pageWalkStart .c0 true)) .reset).bus.lock =
      [(.thisProcessor, some .c0)] ∧
    (next (State.reset.accept (.pageWalkStart .c0 false)) .reset).core0.pageWalks = 1 ∧
    (next (({ State.reset with core0 := { core with pageWalks := 2 }, bus := { bus with lock := [(.thisProcessor, some .c0)] } }
      : State).accept (.pageWalkEnd .c0 true)) .reset).bus.lock = [] := by decide +kernel

/-- Rule R202, each case and what lies beside it: partly written; an aligned store with a misaligned load; a misaligned
store; over an eight byte boundary, not for 16 bytes; 4-KByte aliasing. -/
theorem test_overlap : [overlapBlocks ⟨0, 4⟩ ⟨2, 2⟩, overlapBlocks ⟨1, 4⟩ ⟨0, 8⟩, overlapBlocks ⟨4, 4⟩ ⟨0, 8⟩,
    overlapBlocks ⟨2, 1⟩ ⟨1, 2⟩, overlapBlocks ⟨1, 1⟩ ⟨1, 2⟩, overlapBlocks ⟨8, 1⟩ ⟨8, 8⟩, overlapBlocks ⟨6, 4⟩ ⟨16, 4⟩, overlapBlocks ⟨0, 16⟩ ⟨16, 16⟩,
    overlapBlocks ⟨0, 4⟩ ⟨4096, 4⟩, overlapBlocks ⟨0, 4⟩ ⟨4100, 4⟩] =
    [true, true, false, true, false, false, true, false, true, false] := by decide

/-- Rule R507: DAZ off with a denormal input, FTZ on with an underflow, a division by 0 in x87 and not in SSE. -/
theorem test_assist : [assistRequired false true ⟨false, true, false, false, false⟩,
    assistRequired true true ⟨false, true, false, false, true⟩, assistRequired true true ⟨true, false, false, true, false⟩,
    assistRequired true true ⟨false, false, false, true, false⟩] = [true, false, true, false] := by decide

/-- Rule R120: 66H before an immediate in any mode; 67H before a modr/m in the four modes named. -/
theorem test_slow_decoder : [slowDecoderUsed .unnamed ⟨true, false, true, false⟩,
    slowDecoderUsed .protected32 ⟨false, true, false, true⟩, slowDecoderUsed .unnamed ⟨false, true, false, true⟩,
    slowDecoderUsed .real ⟨true, true, false, false⟩] = [true, true, false, false] := by decide

/-- Rules R299 and R551: a core cycle takes one off a slow decode of 6 and is one in which the slow decoder is used. -/
theorem test_slow_cycle : let s : State := { State.reset with core0 := { core with slowDecodeLeft := 6 } }
    (next (s.accept (.tick (.core .c0))) .reset).core0.slowDecodeLeft = 5 ∧
    (next (s.accept (.tick (.core .c0))) .reset).core0.slowDecoding = true ∧
    (next (State.reset.accept (.tick (.core .c0))) .reset).core0.slowDecoding = false := by decide +kernel

/-- Rules R382 and R383: nine FPSW writes stall for 18 cycles. -/
theorem test_fpsw_stall : let s : State := { State.reset with core0 := { core with fpswStallLeft := 16 } }
    (next (s.accept (.fpswWrite .c0 5)) .reset).core0.fpswStallLeft = 18 ∧
    (next (s.accept (.tick (.core .c0))) .reset).core0.fpswStalling = true := by decide +kernel

/-- Rule R510: the sample of a mispredicted branch holds the address executed next; an operation that did not cause the
event has no sample. -/
theorem test_sample : (during (retires [inst, { inst with next := 42, branch := some ⟨true, true⟩ }])).sampleAddress .c0
      .brInstRetiredMispred = some 42 ∧
    (during (retires [{ inst with next := 42, branch := some ⟨true, true⟩ }])).sampleAddress .c0
      .archBranchMissesRetired = some 42 ∧
    (during (retires [inst])).sampleAddress .c0 .brInstRetiredMispred = none ∧
    (during (.occ .c0 (.x87Retired ⟨true, false, false, 8⟩))).sampleAddress .c0 .x87OpsRetiredAny = some 8 ∧
    (during (.occ .c0 (.x87Retired ⟨true, true, false, 8⟩))).sampleAddress .c0 .x87OpsRetiredAny = none := by decide +kernel

theorem test_sample_loads : (during (.occ .c0 (.loadRetired { load with next := 7 }))).sampleAddress .c0
      .memLoadRetiredL2Miss = some 7 ∧
    (during (.occ .c0 (.loadRetired { load with missedL2 := false }))).sampleAddress .c0 .memLoadRetiredL2Miss = none ∧
    (during (.occ .c0 (.loadRetired { load with faulted := true }))).sampleAddress .c0 .memLoadRetiredDtlbMiss = none ∧
    (during (.occ .c0 (.loadRetired load))).sampleAddress .c1 .memLoadRetiredL1dMiss = none := by decide +kernel

/-! ## The pipeline, the caches, the bus -/

/-- A core with two stores in the pipeline, both retired, and the older of them in the store buffer. -/
def storing : State := { State.reset with core0 := { core with
  inFlight := ⟨0, 0, 0, 2⟩, retiredStores := [⟨8, 4⟩], storeBuffer := [⟨0, 4⟩] } }

/-- Rules R69 and R74: CPUID drains a store buffer with a store in it, not an empty one; while it drains no store enters; the
last commit ends the drain. -/
theorem test_drain : (next (storing.accept (.drain .c0 .serializing)) .reset).core0.draining = some .serializing ∧
    (next (State.reset.accept (.drain .c0 .serializing)) .reset).core0.draining = none ∧
    (next (({ storing with core0 := { storing.core0 with draining := some .other } } : State).accept (.storeWait .c0))
      .reset).core0.storeBuffer = [⟨0, 4⟩] ∧
    (next (({ storing with core0 := { storing.core0 with draining := some .other } } : State).accept
      (.storeCommit .c0)) .reset).core0.draining = none ∧
    (next (({ storing with core0 := { storing.core0 with
      draining := some .other, retiredStores := [], storeBuffer := [⟨0, 4⟩, ⟨8, 4⟩] } } : State).accept
      (.storeCommit .c0)) .reset).core0.draining = some .other := by decide +kernel

/-- Rule R69: until the drain is over nothing enters, executes, loads or locks at retirement; a store is performed and a
plain instruction that has executed retires. -/
theorem test_drain_holds :
    let s : State := { storing with core0 := { storing.core0 with draining := some .other, inFlight := ⟨0, 0, 0, 1⟩ } }
    let w : State := { s with core0 := { s.core0 with inFlight := ⟨2, 1, 0, 1⟩ } }
    next (s.accept (.enterPipe .c0 false false)) .reset = s ∧ next (w.accept (.execute .c0)) .reset = w ∧
    next (s.accept (.dataRef .c0 (access false 0 4))) .reset = s ∧ next (s.accept (.loadSent .c0 ⟨0, 4⟩)) .reset = s ∧
    next (w.accept (.retire .c0 ⟨none, [{ inst with locks := [access true 0 4] }]⟩)) .reset = w ∧
    (next (s.accept (.dataRef .c0 (access true 0 4))) .reset).now = .found .c0 (.dataRef (access true 0 4) .i .i) ∧
    (next (w.accept (.retire .c0 ⟨none, [inst]⟩)) .reset).core0.inFlight = ⟨1, 1, 0, 1⟩ := by decide +kernel

/-- Rule R15: retirement is the last stage: what has not entered the pipe or still waits for execution does not retire, what
has executed does, two instructions of one micro-op too. -/
theorem test_executed_retires : let s : State := { State.reset with core0 := { core with inFlight := ⟨2, 1, 0, 0⟩ } }
    let t := next (s.accept (.execute .c0)) .reset
    next (State.reset.accept (.retire .c0 ⟨none, [inst]⟩)) .reset = State.reset ∧
    next (s.accept (.retire .c0 ⟨some .macroFusion, [inst, inst]⟩)) .reset = s ∧
    (next (s.accept (.retire .c0 ⟨none, [inst]⟩)) .reset).core0.inFlight = ⟨1, 1, 0, 0⟩ ∧
    (next (t.accept (.retire .c0 ⟨some .macroFusion, [inst, inst]⟩)) .reset).core0.inFlight = ⟨0, 0, 0, 0⟩ := by
  decide +kernel

/-- Log entries 38, 58 and 59, the model's choices: a halted core retires, a store that a snoop stalls commits, and an
uncacheable miss is one of those compared with the maximum. -/
theorem test_holds_back_nothing :
    (next (({ State.reset with core0 := { core with halted := true, inFlight := ⟨1, 0, 0, 0⟩ } } : State).accept
      (.retire .c0 ⟨none, [inst]⟩)) .reset).now = retires [inst] ∧
    (next (({ storing with core0 := { storing.core0 with pipe := { pipe with storeStalledBySnoop := true } } } : State).accept
      (.storeCommit .c0)) .reset).core0.storeBuffer = [] ∧
    State.triggerHolds (levels { pipe with misses := [.demand .uncacheable, .demand .io] } pipe cycle) .c0
      .tooManyMisses = true := by decide +kernel

/-- Log entries 24, 56, 66 and 68, the model's choices: a segment load renames nothing, a deferred transaction counts
once under both rows, a page walk when it starts, and an I/O load is held with a memory load of the same numbers. -/
theorem test_choices_of_counting :
    (next (State.reset.accept (.segmentLoad .c0 .es 5 true)) .reset).core0.es = ⟨5, false⟩ ∧
    (gain (.busTransDef 0x40) (during (trans .deferred)), gain (.busTransAny 0x40) (during (trans .deferred))) = (1, 1) ∧
    (next (State.reset.accept (.pageWalkStart .c0 false)) .reset).now = .found .c0 .pageWalk ∧
    (next (State.reset.accept (.pageWalkEnd .c0 false)) .reset).now = .quiet ∧
    Core.waitsForCommit { core with blocked := ⟨[], [(⟨0, 4⟩, ⟨0, 8⟩)]⟩ } ⟨false, false, .io, ⟨0, 4⟩⟩ = true := by
  decide +kernel

/-- Log entries 24, 69, 70 and 71, the model's choices: a segment load drains no store, a delayed request of a page walk
counts under DEMAND, what is thrown away leaves an implicit use of ESP and slow decoding as they are, and at LOAD_LIMIT an
instruction without a load enters. -/
theorem test_choices_of_holding :
    (next (storing.accept (.segmentLoad .c0 .es 5 true)) .reset).core0.draining = none ∧
    (gain (.l2RejectBusq 0x42) (during (.found .c0 (.l2Reject (request .dtlbMiss) .s))),
     gain (.l2RejectBusq 0x62) (during (.found .c0 (.l2Reject (request .dtlbMiss) .s)))) = (1, 0) ∧
    (let c := Core.abandoned { core with espImplicit := true, slowDecodeLeft := 3 } ⟨1, 1, 0, 0⟩ 0 []
     c.espImplicit = true ∧ c.slowDecodeLeft = 3) ∧
    (let c : Core := { core with inFlight := ⟨1, 0, 1, 0⟩ }
     c.canEnter Params.family false true = true ∧ c.canEnter Params.family true false = false) := by decide +kernel

/-- Rules R73 and R396: a fence waits for the stores of the pipeline; a commit takes one off. -/
theorem test_fence : (next (({ storing with core0 := { storing.core0 with inFlight := ⟨1, 1, 0, 2⟩ } } : State).accept
      (.fence .c0)) .reset).core0.fences = [2] ∧
    (next (storing.accept (.fence .c0)) .reset).core0.fences = [] ∧
    (next (State.reset.accept (.fence .c0)) .reset).core0.fences = [] ∧
    (next (storing.accept (.storeWait .c0)) .reset).core0.storeBuffer = [⟨0, 4⟩, ⟨8, 4⟩] ∧
    (next (({ storing with core0 := { storing.core0 with fences := [2, 1] } } : State).accept (.storeCommit .c0))
      .reset).core0.fences = [1] := by decide +kernel

/-- Rule R73: an instruction that waits for previous stores is neither executed nor retired before they commit; one beside
it is, and a micro-op that completes none retires. -/
theorem test_fence_holds : let s : State := { storing with core0 := { storing.core0 with inFlight := ⟨1, 1, 0, 2⟩, fences := [1] } }
    let w : State := { s with core0 := { s.core0 with inFlight := ⟨2, 2, 0, 2⟩ } }
    let v : State := { s with core0 := { s.core0 with inFlight := ⟨2, 1, 0, 2⟩ } }
    next (s.accept (.execute .c0)) .reset = s ∧ next (s.accept (.retire .c0 ⟨none, [inst]⟩)) .reset = s ∧
    (next (w.accept (.execute .c0)) .reset).core0.inFlight = ⟨2, 1, 0, 2⟩ ∧
    (next (v.accept (.retire .c0 ⟨none, [inst]⟩)) .reset).core0.inFlight = ⟨1, 1, 0, 2⟩ ∧
    (next (s.accept (.retire .c0 ⟨none, []⟩)) .reset).now = .found .c0 (.retired ⟨none, []⟩) := by decide +kernel

/-- Rules R394 to R396 under a limit of 2: the first instruction enters, a third waits outside. -/
theorem test_enter : (next (State.reset.accept (.enterPipe .c0 true false)) .reset).core0.inFlight = ⟨1, 1, 1, 0⟩ ∧
    (next (({ State.reset with core0 := { core with inFlight := ⟨2, 0, 0, 0⟩ } } : State).accept
      (.enterPipe .c0 false false)) .reset).core0.inFlight = ⟨2, 0, 0, 0⟩ := by decide +kernel

/-- Rules R61, R66 and R203: a split load made at execution is blocked until retirement, at retirement it is performed and
is free; a store is not blocked. -/
theorem test_split_load : (next (State.reset.accept (.dataRef .c0 splitLoad)) .reset).now =
      .occ .c0 (.loadBlocked (.untilRetire splitLoad)) ∧
    (next (State.reset.accept (.retiredRef .c0 splitLoad)) .reset).now = .found .c0 (.dataRef splitLoad .i .i) ∧
    (next (State.reset.accept (.dataRef .c0 (access true 60 8))) .reset).now =
      .found .c0 (.dataRef (access true 60 8) .i .i) := by decide +kernel

theorem test_retired_load : let s : State := { State.reset with core0 := { core with
      inFlight := ⟨1, 0, 1, 0⟩, blocked := ⟨[uncacheableLoad], []⟩ } }
    let t := next (s.accept (.retire .c0 ⟨none, [{ inst with load := true, atRetirement := [uncacheableLoad] }]⟩)) .reset
    t.queue = [.retiredRef .c0 uncacheableLoad] ∧ t.core0.blocked.untilRetirement = [] ∧
    t.core0.inFlight = ⟨0, 0, 0, 0⟩ := by decide +kernel

/-- Rules R67 and R202: a load blocked by 4-KByte aliasing is not performed before the store commits. -/
theorem test_blocked_by_store : let l : Access := ⟨4096, 4⟩
    let s := next (State.reset.accept (.occ .c0 (.loadBlocked (.overlap l ⟨8192, 4⟩)))) .reset
    let u : State := { s with core0 := { s.core0 with storeBuffer := [⟨8192, 4⟩], inFlight := ⟨0, 0, 0, 1⟩ } }
    let v : State := { s with core0 := { s.core0 with inFlight := ⟨1, 0, 1, 0⟩ } }
    s.core0.blocked.untilCommit = [(l, ⟨8192, 4⟩)] ∧ next (s.accept (.dataRef .c0 (access false 4096 4))) .reset = s ∧
    next (s.accept (.retiredRef .c0 (access false 4096 4))) .reset = s ∧
    next (v.accept (.retire .c0 ⟨none, [{ inst with atRetirement := [access false 4096 4] }]⟩)) .reset = v ∧
    (next (u.accept (.storeCommit .c0)) .reset).core0.blocked.untilCommit = [] := by decide +kernel

/-- Rule R67: "until after the blocking store retires and the stored data is committed": a store of the pipeline that has
not retired neither enters the store buffer nor commits, and the load stays blocked; once it has retired it does both. -/
theorem test_commit_after_retirement : let c : Core := { core with
      inFlight := ⟨1, 0, 0, 1⟩, blocked := ⟨[], [(⟨4096, 4⟩, ⟨8192, 4⟩)]⟩ }
    let s : State := { State.reset with core0 := c }
    let t := next (s.accept (.retire .c0 ⟨none, [{ inst with store := some ⟨8192, 4⟩ }]⟩)) .reset
    let u := next (t.accept (.storeWait .c0)) .reset
    next (s.accept (.storeWait .c0)) .reset = s ∧ next (s.accept (.storeCommit .c0)) .reset = s ∧
    next (t.accept (.storeCommit .c0)) .reset = t ∧ t.core0.retiredStores = [⟨8192, 4⟩] ∧
    u.core0.storeBuffer = [⟨8192, 4⟩] ∧ u.core0.blocked = c.blocked ∧
    (next (u.accept (.storeCommit .c0)) .reset).core0.blocked = ⟨[], []⟩ := by decide +kernel

/-- Rules R15 and R508: what leaves without retiring takes its loads and its stores along, not those that have retired;
rule R73: a fence that leaves waits no longer, one that stays does. -/
theorem test_abandon : next (storing.accept (.abandon .c0 ⟨0, 0, 0, 2⟩ 0 [])) .reset = storing ∧
    (next (({ storing with core0 := { storing.core0 with retiredStores := [] } } : State).accept
      (.abandon .c0 ⟨0, 0, 0, 2⟩ 0 [])) .reset).core0.inFlight = ⟨0, 0, 0, 1⟩ ∧
    (let s : State := { storing with core0 := { storing.core0 with retiredStores := [], fences := [2, 1], inFlight := ⟨3, 3, 0, 2⟩ } }
    (next (s.accept (.abandon .c0 ⟨3, 3, 0, 0⟩ 0 [])) .reset).core0.fences = [] ∧
    (next (s.accept (.abandon .c0 ⟨1, 1, 0, 0⟩ 1 [])) .reset).core0.fences = [1] ∧
    (next (s.accept (.abandon .c0 ⟨1, 1, 0, 1⟩ 0 [])) .reset).core0.fences = [1, 1]) := by decide +kernel

/-- Rule R508: a restart throws away the restarted load and what succeeds it, and the drain of retired stores goes on; a
write to a code section throws away what the input names. -/
theorem test_nuke : let s : State := { storing with core0 := { storing.core0 with
      draining := some .other, inFlight := ⟨5, 2, 3, 2⟩, fences := [2, 1], blocked := ⟨[splitLoad, uncacheableLoad], []⟩ } }
    let t := next (s.accept (.nuke .c0 .memoryOrder ⟨2, 2, 1, 2⟩ 1 [splitLoad])) .reset
    t.now = .found .c0 (.nuke .memoryOrder) ∧ t.core0.inFlight = ⟨2, 0, 1, 2⟩ ∧ t.core0.fences = [] ∧
    t.core0.draining = some .other ∧ t.core0.blocked.untilRetirement = [uncacheableLoad] ∧
    (next (s.accept (.nuke .c0 .selfModifyingCode ⟨2, 2, 1, 0⟩ 0 [])) .reset).core0.inFlight = ⟨3, 0, 2, 2⟩ := by
  decide +kernel

/-- Rules R28 and R244: a core that is halted while the other is not is idle for L2_NO_REQ; both halted, it is not. -/
theorem test_l2_halted : let busy : Core := { core with halted := true, pipe := { pipe with l2Pending := 1 } }
    gain (.l2NoReq 0x40) (coreIs busy cycle) = 1 ∧
    gain (.l2NoReq 0x40) { coreIs busy cycle with core1 := { core with halted := true } } = 0 ∧
    gain (.l2NoReq 0x40) (coreIs { core with pipe := { pipe with l2Pending := 1 } } cycle) = 0 := by decide +kernel

/-- Rule R554: under another UNNAMED_CYCLE_CLOCK the dispatched micro-ops and the ports count at its cycles. -/
theorem test_dispatch_clock : let s : State := { State.initial { Params.family with unnamedClock := .bus } with
      turn := [.gp .c0 0], now := .tick .bus, core0 := { core with pipe := { pipe with port0 := true, port5 := true } } }
    gain .rsUopsDispatched s = 2 ∧ gain .rsUopsDispatchedPort0 s = 1 ∧ gain .rsUopsDispatchedPort5 s = 1 ∧
    gain .rsUopsDispatched { s with now := cycle } = 0 := by decide +kernel

/-- Rules R40 (f), R243 and R290: one entry for a set, an IO request beside it, none while the queue is full. -/
theorem test_bus_queue : let s : State := { State.reset with core0 := { core with busQueue := [.line 3] } }
    (next (s.accept (.busRequest .c0 (request .l1dRead) 4)) .reset).core0.busQueue = [.line 3, .line 4] ∧
    (next (s.accept (.busRequest .c0 (request .l1dRead) 3)) .reset).now = .found .c0 (.l2Reject (request .l1dRead) .i) ∧
    (next (s.accept (.ioRequest .c0)) .reset).core0.busQueue = [.line 3, .io] ∧
    (next (({ State.reset with core0 := { core with pipe := { pipe with busQueueFull := true } } } : State).accept
      (.ioRequest .c0)) .reset).core0.busQueue = [] := by decide +kernel

/-- Rules R69 and R505: an interrupt that comes over the bus is received next, and its acknowledgment drains the stores. -/
theorem test_interrupt_over_bus : (next (State.reset.accept (.busTrans
      ⟨.interrupt (some .c0), .another 1, none, true, false⟩)) .reset).queue = [.interrupt .c0] ∧
    (next (storing.accept (.interrupt .c0)) .reset).core0.draining = some .interruptAcknowledgment ∧
    (next (storing.accept (.interrupt .c0)) .reset).core0.intPending = 1 := by decide +kernel

/-- Rules R79, R233, R235 and R274: write-backs; a modified line that a snoop invalidates in the L2 cache is one. -/
theorem test_write_backs : let s : State := { State.reset with core0 := { core with l1d := [(5, .m)] }, l2 := [(5, .m), (6, .m)] }
    (next (s.accept (.l1dLineOut .c0 5)) .reset).queue = [.writeBackToL2 .c0 5] ∧
    (next (State.reset.accept (.writeBackToL2 .c0 5)) .reset).l2 = [(5, .m)] ∧
    (next (s.accept (.l2LineOut .c0 5 false)) .reset).queue = [] ∧
    (next (s.accept (.l2LineOut .c0 6 false)) .reset).queue.length = 1 ∧
    ((next (s.accept (.l2LineState 6 .i)) .reset).queue.map fun
      | .busTrans b => b.kind = .implicitWriteback
      | _ => false) = [true] ∧
    (next (s.accept (.l2LineState 6 .s)) .reset).queue = [] := by decide +kernel

/-- Rules R79, R238 and R239: a store to a line that the L1 data cache holds in S asks the L2 cache without a miss. -/
theorem test_l2_request_found : let s : State := { State.reset with core0 := { core with l1d := [(0, .s)] } }
    (next (s.accept (.l2Request .c0 (request .l1dWrite))) .reset).now =
      .found .c0 (.l2Request (request .l1dWrite) false .i) ∧
    (next (State.reset.accept (.l2Request .c0 (request .l1dWrite))) .reset).now =
      .found .c0 (.l2Request (request .l1dWrite) true .i) ∧
    (next (s.accept (.l2Reject .c0 (request .l1dWrite))) .reset).now = .found .c0 (.l2Reject (request .l1dWrite) .i) ∧
    (next (s.accept (.itlbFlush .c0)) .reset).now = .found .c0 .itlbFlush := by decide +kernel

/-- Rule R80: where the prefetches bring their lines. -/
theorem test_prefetch_fills : [SsePrefetch.nta, .t0, .t1, .t2].map (fun k => State.reset.prefetchFills .c0 k 9 .e) =
      [[.l1dLineIn .c0 9 .e], [.l2LineIn .c0 9 .e false, .l1dLineIn .c0 9 .e], [.l2LineIn .c0 9 .e false],
       [.l2LineIn .c0 9 .e false]] ∧
    (next (State.reset.accept (.dplPrefetch .c0 .upward 9 .s)) .reset).queue = [.l2LineIn .c0 9 .s true] ∧
    (next (({ State.reset with core0 := { core with prefetching := [(.nta, 1)] } } : State).accept
      (.loadSent .c0 ⟨127, 1⟩)) .reset).now = .found .c0 (.loadSent true) ∧
    (next (({ State.reset with core0 := { core with prefetching := [(.nta, 1)] } } : State).accept
      (.loadSent .c0 ⟨128, 8⟩)) .reset).now = .found .c0 (.loadSent false) := by decide +kernel

/-- Rules R79 and R285: a snoop for the other core uses the store port in the next cycle. -/
theorem test_snoop_port : let s := next (({ State.reset with core0 := { core with l1d := [(5, .e)] } } : State).accept
      (.coreSnoop .c0 5 .read none)) .reset
    s.core0.l1d = [(5, .s)] ∧ s.core0.portSnoops = 1 ∧
    (next (s.accept (.tick (.core .c0))) .reset).core0.portSnooping = true := by decide +kernel

/-- Rules R79 and R258: a snooped line in M stays in M; when it becomes invalid later it is evicted and written back. -/
theorem test_snooped_modified : let s : State := { State.reset with core0 := { core with l1d := [(5, .m)] } }
    (next (s.accept (.coreSnoop .c0 5 .readForOwnership (some .i))) .reset).core0.l1d = [(5, .m)] ∧
    (next (s.accept (.l1dLineState .c0 5 .i)) .reset).now = .found .c0 (.l1dLineOut true) ∧
    (next (s.accept (.l1dLineState .c0 5 .i)) .reset).queue = [.writeBackToL2 .c0 5] ∧
    (next (s.accept (.l1dLineState .c0 5 .s)) .reset).core0.l1d = [(5, .s)] := by decide +kernel

/-- Rule R564: with three reference cycles for two bus cycles, two bus cycles bring one and two. -/
theorem test_ratio : let s : State := .initial { Params.family with refCycles := 3, busCycles := 2 }
    let t := next (s.accept (.tick .bus)) .reset
    t.queue = [.tick .ref] ∧ t.refCredit = 3 ∧ (next (t.accept (.tick .ref)) .reset).refCredit = 1 ∧
    (next (({ s with refCredit := 1 } : State).accept (.tick .bus)) .reset).queue = [.tick .ref, .tick .ref] ∧
    (next (s.accept (.tick .ref)) .reset).tsc = 0 := by decide +kernel

/-- Rule R31: a trip keeps the frequency to return to, and the check returns to it; a transition sets it anew, TM2 as any
other. -/
theorem test_throttle : (next (({ State.reset with core0 := { core with frequency := 100 } } : State).accept
      (.temperature 2)) .reset).core0.normalFrequency = 100 ∧
    (next (({ State.reset with thermal := ⟨0, true⟩, core0 := { core with frequency := 50, normalFrequency := 100 } }
      : State).accept .millisecond) .reset).core0.frequency = 100 ∧
    (next (State.reset.accept (.transition .c0 ⟨.tm2, some 70, none⟩)) .reset).core0.normalFrequency = 70 := by
  decide +kernel

/-! ## Witnesses of the statements about the whole machine -/

theorem test_witness_allRef : decodeWith 0x01 0x43 0x01 = some .l1dAllRef ∧ decodeWith 0x01 0x43 0x02 = some .l1dAllCacheRef ∧
    decodeWith 0x01 0x43 0x10 = none ∧ decodeWith 0x01 0x42 0x10 = some .l1dCacheLockDuration := by decide +kernel

theorem test_witness_composedUmask : Params.family.wf = true ∧ Params.family.nCores = 2 ∧
    Instr.format (.l2Rqsts 0) = .composedUmask ∧
    encodeSettings .family (Instr.qualifiers (.l2Rqsts 0))
      { core := .bothCore, prefetch := .both, mesi := .all } = some 0xFF := by decide +kernel

theorem test_witness_fixedRows : State.reset.params.wf = true ∧ State.reset.params.nCores = 2 ∧
    gain (.l2Rqsts 0x41) (during (.found .c0 (.l2Request (request .l1dRead) true .i))) = 1 ∧
    gain (.l2Rqsts 0x4F) (during (.found .c0 (.l2Request (request .l1dRead) true .m))) = 1 := by decide +kernel

theorem test_witness_reservedCoreField : ({ Params.family with nCores := 1 } : Params).nCores = 1 ∧
    Instr.wellFormed (.l2Ads 0x40) = true ∧ decodeSelection { Params.family with nCores := 1 } 0x21 0x40 = none ∧
    decodeSelection { Params.family with nCores := 1 } 0x21 0x00 = some (.l2Ads 0x00) ∧ Qualifier.core ∈ Instr.qualifiers (.l2Ads 0x40) ∧
    encode (.l2Ads 0x40) = .select 0x21 0x40 ∧ (0x40 : Byte) &&& Params.family.core.field ≠ 0 := by decide +kernel

theorem test_witness_counters : State.reset.hasCounter (.gp .c1 1) = true ∧ State.reset.hasCounter (.gp .c1 2) = false ∧
    State.reset.params.approxErr = 0 ∧ State.reset.value (.gp .c1 1) = State.reset.nominal (.gp .c1 1) % 2 ^ 40 ∧
    State.reset.hasCounter (.fixed .c0 .ctr2) = true := by decide +kernel

theorem test_witness_read : (counted .family 0xC4 0x00 10 .quiet).hasCore .c0 = true ∧
    (decodeSelection .family 0xC4 0x00).isSome = true ∧ decodeSelection .family 0x05 0x00 = none ∧
    (((State.reset.core .c0).gp[0]?).map (·.selected)) = some false := by decide +kernel

theorem test_witness_step : (counted .family 0x3C 0x00 0 cycle).fetch (.gp .c0 0) = some .cpuClkUnhaltedCoreP ∧
    (counted .family 0x05 0x00 0 cycle).fetch (.gp .c0 0) = none ∧
    counter0 (next (step (counted .family 0x3C 0x00 0 cycle)) .reset) = some (true, 0x3C, 0x00, 1, 1) := by decide +kernel

/-- With no counter left to serve a step takes the next input, and with none the machine stays as it is. -/
theorem test_witness_step_accepts :
    (next (step { State.reset with queue := [.tick (.core .c0), .wake .c1] }) .reset).now = .tick (.core .c0) ∧
    (next (step { State.reset with queue := [.tick (.core .c0), .wake .c1] }) .reset).queue = [.wake .c1] ∧
    next (step .reset) { State.reset with tsc := 1 } = State.reset := by decide +kernel

/-- One core: DEMAND and all four states of the row of 2EH compose to 0FH, the core bits 00B, and are read back. -/
theorem test_witness_one_core : let p : Params := { Params.family with nCores := 1 }
    let q : Settings := { mesi := .all }
    p.wf = true ∧ (Instr.l2Rqsts 0x0F).format = .composedUmask ∧
    encodeSettings p ((Instr.l2Rqsts 0x0F).qualifiers.filter (· ≠ .core)) q = some 0x0F ∧
    decodeSettings p (Instr.l2Rqsts 0x0F).qualifiers 0x0F = some q := by decide +kernel

/-- Rule R259: requests to write through and write combine memory count whatever made them, uncacheable ones do not. -/
theorem test_pend_miss_types : let s := during cycle
    s.countsMiss (.softwarePrefetch .writeThrough) = true ∧ s.countsMiss (.softwarePrefetch .writeCombine) = true ∧
    s.countsMiss (.softwarePrefetch .uncacheable) = false ∧ s.countsMiss (.softwarePrefetch .io) = false := by
  decide +kernel

/-- Micro-ops that can retire and that cannot: beside a fence, and with a load that a store blocks. -/
theorem test_witness_canRetire : Core.holdsRetirement { core with inFlight := ⟨1, 0, 1, 0⟩ }
      ⟨none, [{ inst with atRetirement := [splitLoad] }]⟩ = false ∧
    Core.holdsRetirement { core with fences := [1], inFlight := ⟨2, 1, 0, 1⟩ } ⟨none, [inst]⟩ = false ∧
    Core.holdsRetirement { core with fences := [1], inFlight := ⟨1, 1, 0, 1⟩ } ⟨none, [inst]⟩ = true ∧
    Core.holdsRetirement { core with inFlight := ⟨1, 0, 1, 0⟩, blocked := ⟨[], [(splitLoad.bytes, ⟨8192, 4⟩)]⟩ }
      ⟨none, [{ inst with locks := [splitLoad] }]⟩ = true ∧
    core.holdsLoad splitLoad = false := by decide +kernel

theorem test_witness_registers : Params.family.wf = true ∧ Params.family.pmcAddrs[1]? = some 0xC2 ∧
    Params.family.evtselAddrs[1]? = some 0x187 ∧ registerAt .family 0x185 = none ∧
    Params.family.layout.eventLsb + 8 ≤ Params.family.layout.umaskLsb ∧
    registerAt .family 0x30B = some (.fixed .ctr2) := by decide +kernel

theorem test_witness_startFixed : ((next (State.reset.accept (.startFixed .c0)) .reset).core .c0).fixedStarted = true ∧
    (next (State.reset.accept (.startFixed .c0)) .reset).nominal (.fixed .c0 .ctr0) = 0 := by decide +kernel

/-- A counter that is started anew falls from 5 to 0 in a step; a served one gains in a step. -/
theorem test_witness_writers :
    (next (step { State.reset with core0 := { core with fixed0 := ⟨5, 5⟩ }, queue := [.startFixed .c0] }) .reset).nominal
      (.fixed .c0 .ctr0) = 0 ∧
    (next (step { counted .family 0xC4 0x00 10 .quiet with turn := [], queue := [.select .c0 0 0 0] }) .reset).nominal
      (.gp .c0 0) = 0 := by decide +kernel

/-- A counter whose value alone changes, its nominal count being 0 already: `select` writes it to 0. -/
theorem test_witness_value_changes :
    let s : State := { counted .family 0xC4 0x00 0 .quiet with turn := [], queue := [.select .c0 0 0 0] }
    let t : State := { s with core0 := { s.core0 with gp := [⟨true, 0xC4, 0, 7, 0⟩, .reset] } }
    t.value (.gp .c0 0) = 7 ∧ (next (step t) .reset).value (.gp .c0 0) = 0 ∧ t.nominal (.gp .c0 0) = 0 := by
  decide +kernel

/-- A core with a store in its buffer that drains, and a load blocked in either way: what an abandonment takes along. -/
theorem test_witness_thrown_away : let s : State := { storing with core0 := { storing.core0 with
      draining := some .other, blocked := ⟨[splitLoad], [(splitLoad.bytes, ⟨8192, 4⟩)]⟩ } }
    s.hasCore .c0 = true ∧ (s.core0.storeBuffer ≠ [] ∧ s.core0.uncommitted ≤ s.core0.inFlight.stores) ∧
    (next (s.accept (.abandon .c0 ⟨0, 0, 0, 2⟩ 0 [])) .reset).core0.draining = some .other ∧
    (next (s.accept (.abandon .c0 ⟨0, 0, 0, 1⟩ 0 [splitLoad])) .reset).core0.blocked = ⟨[], []⟩ := by decide +kernel

theorem test_witness_clocks : countingTick .sbDrainCycles (during .quiet) .c0 = some (.core .c0) ∧
    countingTick (.busHitDrv 0) (during .quiet) .c0 = some .bus ∧ countingTick .mul (during .quiet) .c0 = none ∧
    Instr.unit .mul = .occurrences ∧ Instr.unit .rsUopsDispatched = .occurrences := by decide +kernel

/-- A bubble, and a cycle in which a write of the FPU status word stalls, on a counter that is served and exists. -/
theorem test_witness_stalls_any : (during (.occ .c0 .takenBubble)).hasCounter (.gp .c0 0) = true ∧
    (during (.occ .c0 .takenBubble)).now = .occ .c0 .takenBubble ∧
    gain .ratStallsAny (coreIs { core with fpswStalling := true } cycle) = 1 := by decide +kernel

/-- What the shared conditions read: too many misses, selected cores, a halted core with the other awake. -/
theorem test_witness_shared : State.triggerHolds { during cycle with core0 := { core with
      pipe := { pipe with misses := [.softwarePrefetch .cacheable, .hwPrefetch] } } } .c0 .tooManyMisses = true ∧
    State.triggerHolds (during cycle) .c0 .tooManyMisses = false ∧
    (during cycle).selectedCores { core := .bothCore } .c0 = [.c0, .c1] ∧
    (State.initial { Params.family with nCores := 1 }).selectedCores { core := .bothCore } .c0 = [.c0] ∧
    (coreIs { core with halted := true, busQueue := [.io] } cycle).busQueueIdle .c0 = true ∧
    (during cycle).triggerHolds .c0 (.lineSplit ⟨60, 8⟩) = true ∧
    (during cycle).triggerHolds .c0 (.lineSplit ⟨56, 8⟩) = false := by decide +kernel

theorem test_witness_sums : (decodeSettings .family [.mesi] 0x0F).map (·.mesi) = some .all ∧
    Params.family.smallPage ≠ Params.family.largePage ∧ Params.family.unnamedClock = .core := by decide +kernel

theorem test_witness_hot : exceedsTrip .family 2 = true ∧ exceedsTrip .family 1 = false ∧ belowTrip .family 1 = false ∧
    belowTrip .family 0 = true := by decide

theorem test_witness_lines : linesWf [(1, .m), (2, .e), (3, .s)] = true ∧ linesWf [(2, .m), (1, .e)] = false ∧
    linesWf [(1, .i)] = false := by decide

theorem test_witness_events_stop : State.reset.hasCore .c0 = true ∧ Instr.precise .mul = false ∧
    Instr.format .fixedInstrRetiredAny = .fixedCounter ∧ decodeMsr (FixedId.address .ctr1) ≠ some .fixedInstrRetiredAny := by
  decide +kernel

end Sys2Proof.Tests
end

section
/-! Counters: what `addTo` makes of every counter, and which counters are served. -/

namespace Sys2Proof.Machine

/-! ## Changing one core -/

@[simp] theorem modCore_readout (s : State) (x : CoreId) (f : Core → Core) : (s.modCore x f).readout = s.readout :=
  setCore_readout ..

@[simp] theorem modCore_tsc (s : State) (x : CoreId) (f : Core → Core) : (s.modCore x f).tsc = s.tsc := setCore_tsc ..

@[simp] theorem modCore_refCredit (s : State) (x : CoreId) (f : Core → Core) :
    (s.modCore x f).refCredit = s.refCredit := setCore_refCredit ..

/-- A core that is written back as it was changes nothing. -/
@[simp] theorem setCore_core_self (s : State) (x : CoreId) : s.setCore x (s.core x) = s := by cases x <;> rfl

theorem modCore_eq_self {s : State} {x : CoreId} {f : Core → Core} (h : f (s.core x) = s.core x) :
    s.modCore x f = s := by rw [State.modCore, h, setCore_core_self]

/-- Which core is read after one was written. -/
theorem setCore_core_eq (s : State) (x y : CoreId) (c : Core) :
    (s.setCore x c).core y = if y = x then c else s.core y := by
  split
  · next h => rw [h, setCore_core_same]
  · next h => exact setCore_core_other s c h

/-! ## Counting on one counter (rules R12, R21 and R26) -/

/-- The nominal count of the counter that is added to gains the amount. -/
theorem addTo_nominal_same (s : State) (c : CounterId) (n : Nat) (h : s.hasCounter c = true) :
    (s.addTo c n).nominal c = s.nominal c + n := by
  by_cases hn : n = 0
  · simp [hn]
  cases c with
  | gp x k =>
    simp only [State.hasCounter, Bool.and_eq_true, decide_eq_true_eq] at h
    rw [addTo_gp s x k n _ (List.getElem?_eq_getElem h.2) hn]
    simp [State.nominal, State.bumpGp, h.2]
  | fixed x f => rw [addTo_fixed s x f n hn]; simp [State.nominal, State.bumpFixed]

/-- The counter that is added to shows its new count (rules R13 and R21). -/
theorem addTo_value_same (s : State) (c : CounterId) (n : Nat) (h : s.hasCounter c = true) (hn : n ≠ 0) :
    (s.addTo c n).value c = s.held (s.nominal c + n) := by
  cases c with
  | gp x k =>
    simp only [State.hasCounter, Bool.and_eq_true, decide_eq_true_eq] at h
    rw [addTo_gp s x k n _ (List.getElem?_eq_getElem h.2) hn]
    simp [State.nominal, State.value, State.bumpGp, h.2]
  | fixed x f => rw [addTo_fixed s x f n hn]; simp [State.nominal, State.value, State.bumpFixed]

@[simp] theorem fixedCtr_gp (c : Core) (l : List GpCounter) (f : FixedId) :
    Core.fixedCtr { c with gp := l } f = c.fixedCtr f := by cases f <;> rfl

/-- Every counter but the one that is added to keeps its nominal count and its value. -/
theorem addTo_other (s : State) {c d : CounterId} (n : Nat) (h : d ≠ c) :
    (s.addTo c n).nominal d = s.nominal d ∧ (s.addTo c n).value d = s.value d := by
  obtain e | ⟨x, k, g, rfl, -, -, e⟩ | ⟨x, f, rfl, -, e⟩ := addTo_cases s c n <;> rw [e]
  · exact ⟨rfl, rfl⟩
  · cases d with
    | gp y j =>
      by_cases hy : y = x
      · have hj : k ≠ j := fun hj => h (by rw [hy, hj])
        simp [State.nominal, State.value, hy, List.getElem?_set_ne hj]
      · simp [State.nominal, State.value, setCore_core_other s _ hy]
    | fixed y g => by_cases hy : y = x <;> simp [State.nominal, State.value, setCore_core_eq, hy]
  · cases d with
    | gp y j => by_cases hy : y = x <;> simp [State.nominal, State.value, setCore_core_eq, hy]
    | fixed y g =>
      by_cases hy : y = x
      · have hg : g ≠ f := fun hg => h (by rw [hy, hg])
        simp [State.nominal, State.value, hy, setFixedCtr_other _ _ hg]
      · simp [State.nominal, State.value, setCore_core_other s _ hy]

/-- The nominal count of no counter falls, and none gains more than the amount added. -/
theorem addTo_nominal_bounds (s : State) (c d : CounterId) (n : Nat) :
    s.nominal d ≤ (s.addTo c n).nominal d ∧ (s.addTo c n).nominal d ≤ s.nominal d + n := by
  by_cases hd : d = c
  · subst hd
    obtain e | ⟨x, k, g, rfl, hg, -, e⟩ | ⟨x, f, rfl, -, e⟩ := addTo_cases s d n
    · rw [e]; omega
    · obtain ⟨hk, rfl⟩ := List.getElem?_eq_some_iff.1 hg
      simp [e, State.nominal, State.bumpGp, hk]
    · simp [e, State.nominal, State.bumpFixed]
  · rw [(addTo_other s n hd).1]; omega

/-- Counting touches no selection (rule R27). -/
@[simp] theorem addTo_selections (s : State) (c : CounterId) (n : Nat) (y : CoreId) :
    ((s.addTo c n).core y).selections = (s.core y).selections := by
  obtain e | ⟨x, k, g, -, hg, -, e⟩ | ⟨x, f, -, -, e⟩ := addTo_cases s c n <;> rw [e]
  · obtain ⟨hk, rfl⟩ := List.getElem?_eq_some_iff.1 hg
    by_cases hy : y = x
    · subst hy
      simp only [drawApprox_core, setCore_core_same, Core.selections, List.map_set]
      exact List.ext_getElem (by simp) fun j _ _ => by by_cases hj : k = j <;> simp [hj, State.bumpGp]
    · simp [setCore_core_other s _ hy]
  · by_cases hy : y = x <;> simp [Core.selections, setCore_core_eq, hy]

/-- What a counter shows is within APPROX_ERR of its count (rule R13, D7). -/
theorem approx_bounds (s : State) (n : Nat) :
    n - s.params.approxErr ≤ s.approx n ∧ s.approx n ≤ n + s.params.approxErr := by
  unfold State.approx
  split
  · omega
  · have := Nat.mod_lt (Config.approxPick s.drawn)
      (Nat.add_one_pos (n + s.params.approxErr - (n - s.params.approxErr)))
    omega

/-- With APPROX_ERR 0 a counter shows its count itself. -/
theorem approx_exact (s : State) (n : Nat) (h : s.params.approxErr = 0) : s.approx n = n := if_pos h

/-- A counter holds a value of CTR_WIDTH bits (rule R26). -/
theorem held_lt (s : State) (n : Nat) : s.held n < 2 ^ s.params.ctrWidth := Nat.mod_lt _ (Nat.two_pow_pos _)

/-! ## Which counters exist and are served -/

/-- Which counters exist is read of the parameters and the number of general-purpose counters. -/
theorem hasCounter_congr {s t : State} (hp : t.params = s.params)
    (hl : ∀ x, (t.core x).gp.length = (s.core x).gp.length) (c : CounterId) : t.hasCounter c = s.hasCounter c := by
  cases c <;> simp only [State.hasCounter, State.hasCore, State.cores, hp, hl]

/-- Every counter that is counting exists (rules R21 and R23 to R25). -/
theorem hasCounter_of_mem_listening {s : State} {c : CounterId} (h : c ∈ s.listening) : s.hasCounter c = true := by
  obtain ⟨x, hx, hc⟩ := List.mem_flatMap.1 h
  have hcore : s.hasCore x = true := List.elem_eq_true_of_mem hx
  obtain hc | hc := List.mem_append.1 hc
  · obtain ⟨k, hk, rfl⟩ := List.mem_map.1 hc
    simp [State.hasCounter, hcore, List.mem_range.1 (List.mem_filter.1 hk).1]
  · split at hc
    · simp only [List.mem_cons, List.not_mem_nil, or_false] at hc
      obtain rfl | rfl | rfl := hc <;> exact hcore
    · exact absurd hc List.not_mem_nil

/-- Settles O27: `addTo` by what it does to the counter itself, to the others, to the selections and to the rest. -/
theorem countingChangesOneCounter : Obligations.CountingChangesOneCounter := fun s c n h =>
  ⟨addTo_nominal_same s c n h, addTo_value_same s c n h, fun hn => by rw [hn, addTo_zero],
    fun _ hd => addTo_other s n hd, addTo_selections s c n, activity_addTo s c n⟩

/-- Settles O29: the value drawn lies in the interval of width twice APPROX_ERR about the count. -/
theorem approxWithinError : Obligations.ApproxWithinError := fun s n =>
  ⟨(approx_bounds s n).1, (approx_bounds s n).2, approx_exact s n⟩

/-- Settles O32: every instruction serves the counter whose turn it is, by `addTo` or not at all. -/
theorem eventsTouchOnlyTheirCounter : Obligations.EventsTouchOnlyTheirCounter := by
  intro i s
  obtain e | ⟨c, rest, n, ht, e⟩ := exec_serves i s
  · exact ⟨s, e, rfl, fun _ => rfl, fun _ => Nat.le_refl _, fun _ _ => ⟨rfl, rfl⟩⟩
  · refine ⟨_, e, activity_addTo s c n, addTo_selections s c n, fun d => (addTo_nominal_bounds s c d n).1, ?_⟩
    intro d hd
    exact addTo_other s n fun hdc => hd (by rw [ht, hdc, List.head?_cons])

end Sys2Proof.Machine
end

section
/-! The invariant of the machine's states (O36): what it demands of one core and of the rest of the state, that every
operation of the history keeps both, and so every step. -/

namespace Sys2Proof.Machine

/-! ## What the invariant demands of one core -/

/-- The demands of `State.Inv` on one core of a processor with the parameters `p`. -/
structure Core.Wf (c : Core) (p : Params) : Prop where
  counters : c.gp.length = p.nGp
  gpWidth : ∀ g ∈ c.gp, g.pmc < 2 ^ p.ctrWidth
  fixedWidth : ∀ f, (c.fixedCtr f).value < 2 ^ p.ctrWidth
  l1dLines : linesWf c.l1d = true
  l1iLines : linesWf c.l1i = true
  pipeline : c.pipelineWf p

/-- The fields of a core that `Core.Wf` reads. -/
def Core.bounded (c : Core) :=
  ((c.gp, c.fixed0, c.fixed1, c.fixed2, c.l1d, c.l1i),
    (c.inFlight, c.retiredStores, c.storeBuffer, c.draining, c.fences, c.busQueue))

theorem Core.Wf.of_bounded {c d : Core} {p : Params} (h : d.Wf p) (e : c.bounded = d.bounded) : c.Wf p := by
  simp only [Core.bounded, Prod.mk.injEq] at e
  obtain ⟨⟨hgp, h0, h1, h2, hd, hi⟩, hpipe⟩ := e
  have hf : ∀ f, c.fixedCtr f = d.fixedCtr f := fun f => by cases f <;> assumption
  exact ⟨hgp ▸ h.counters, hgp ▸ h.gpWidth, fun f => hf f ▸ h.fixedWidth f, hd ▸ h.l1dLines, hi ▸ h.l1iLines,
    Core.pipelineWf_congr hpipe h.pipeline⟩

/-- An operation on the pipeline that keeps its bounds keeps all that is demanded of the core. -/
theorem Core.Wf.of_elsewhere {c d : Core} {p : Params} (h : d.Wf p) (e : c.SameElsewhere d) (hc : c.pipelineWf p) :
    c.Wf p := by
  unfold Core.SameElsewhere at e
  have hgp : d.gp = c.gp := (congrArg Core.gp e :)
  have hf : ∀ f, d.fixedCtr f = c.fixedCtr f := fun f => by
    cases f
    exacts [(congrArg Core.fixed0 e :), (congrArg Core.fixed1 e :), (congrArg Core.fixed2 e :)]
  have hd : d.l1d = c.l1d := (congrArg Core.l1d e :)
  have hi : d.l1i = c.l1i := (congrArg Core.l1i e :)
  exact ⟨hgp ▸ h.counters, hgp ▸ h.gpWidth, fun f => hf f ▸ h.fixedWidth f, hd ▸ h.l1dLines, hi ▸ h.l1iLines, hc⟩

theorem Core.Wf.setL1d {c : Core} {p : Params} (h : c.Wf p) (n : Nat) (st : LineState) :
    Core.Wf { c with l1d := setLine c.l1d n st } p :=
  ⟨h.counters, h.gpWidth, h.fixedWidth, setLine_wf _ n st h.l1dLines, h.l1iLines,
    Core.pipelineWf_congr (d := c) ⟨rfl, rfl, rfl, rfl, rfl, rfl⟩ h.pipeline⟩

theorem Core.Wf.setL1i {c : Core} {p : Params} (h : c.Wf p) (n : Nat) (st : LineState) :
    Core.Wf { c with l1i := setLine c.l1i n st } p :=
  ⟨h.counters, h.gpWidth, h.fixedWidth, h.l1dLines, setLine_wf _ n st h.l1iLines,
    Core.pipelineWf_congr (d := c) ⟨rfl, rfl, rfl, rfl, rfl, rfl⟩ h.pipeline⟩

/-- A general-purpose counter may take any value of CTR_WIDTH bits. -/
theorem Core.Wf.setGp {c : Core} {p : Params} (h : c.Wf p) (k : Nat) (g : GpCounter) (hg : g.pmc < 2 ^ p.ctrWidth) :
    Core.Wf { c with gp := c.gp.set k g } p :=
  ⟨by rw [List.length_set]; exact h.counters,
    fun g' hg' => (List.mem_or_eq_of_mem_set hg').elim (h.gpWidth g') fun e => e ▸ hg,
    h.fixedWidth, h.l1dLines, h.l1iLines,
    Core.pipelineWf_congr (d := c) ⟨rfl, rfl, rfl, rfl, rfl, rfl⟩ h.pipeline⟩

/-- A fixed-function counter may take any value of CTR_WIDTH bits. -/
theorem Core.Wf.setFixedCtr {c : Core} {p : Params} (h : c.Wf p) (f : FixedId) (v : FixedCounter)
    (hv : v.value < 2 ^ p.ctrWidth) : (c.setFixedCtr f v).Wf p := by
  have hp : (c.setFixedCtr f v).SamePipeline c := by cases f <;> exact ⟨rfl, rfl, rfl, rfl, rfl, rfl⟩
  refine ⟨by simpa using h.counters, by simpa using h.gpWidth, fun g => ?_, by simpa using h.l1dLines,
    by simpa using h.l1iLines, Core.pipelineWf_congr hp h.pipeline⟩
  by_cases hg : g = f
  · rw [hg, setFixedCtr_same]; exact hv
  · rw [setFixedCtr_other _ _ hg]; exact h.fixedWidth g

theorem Core.Wf.startFixed {c : Core} {p : Params} (h : c.Wf p) :
    Core.Wf { c with fixedStarted := true, fixed0 := ⟨0, 0⟩, fixed1 := ⟨0, 0⟩, fixed2 := ⟨0, 0⟩ } p :=
  ⟨h.counters, h.gpWidth, fun f => by cases f <;> exact Nat.two_pow_pos _, h.l1dLines, h.l1iLines,
    Core.pipelineWf_congr (d := c) ⟨rfl, rfl, rfl, rfl, rfl, rfl⟩ h.pipeline⟩

theorem Core.Wf.setSegment {c : Core} {p : Params} (h : c.Wf p) (r : SegReg) (v : Segment) :
    (c.setSegment r v).Wf p := h.of_bounded (by cases r <;> rfl)

theorem Core.Wf.drain {c : Core} {p : Params} (h : c.Wf p) (cause : DrainCause) : (c.drain cause).Wf p :=
  h.of_elsewhere (c.drain_elsewhere cause) (Core.drain_wf cause h.pipeline)

theorem Core.Wf.abandoned {c : Core} {p : Params} (h : c.Wf p) (n : InFlight) (k : Nat) (l : List DataRef) :
    (c.abandoned n k l).Wf p :=
  h.of_elsewhere (c.abandoned_elsewhere n k l) (Core.abandoned_wf n k l h.pipeline)

/-! ## What it demands of the rest of the state -/

/-- The fields outside the cores that the invariant reads. -/
def State.uncore (s : State) :=
  (s.params, s.readout, s.l2, s.heldBack, s.bnrLeft, s.snoopStallLeft, s.thermal)

/-- The demands of the invariant outside the cores, the counters to be served left aside. -/
structure State.UncoreWf (s : State) : Prop where
  params : s.params.wf = true
  readWidth : ∀ v ∈ s.readout, v < 2 ^ s.params.ctrWidth
  l2Lines : linesWf s.l2 = true
  heldBack : ∀ t ∈ s.heldBack, s.canSubmit t = false
  hot : exceedsTrip s.params s.thermal.temperature = true → s.thermal.tripped = true

theorem State.UncoreWf.of_uncore {s t : State} (h : s.UncoreWf) (e : t.uncore = s.uncore) : t.UncoreWf := by
  simp only [State.uncore, Prod.mk.injEq] at e
  obtain ⟨hp, hr, hl, hh, hb, hs, ht⟩ := e
  have hc : ∀ b, t.canSubmit b = s.canSubmit b := fun b => by rw [State.canSubmit, hb, hs, State.canSubmit]
  exact ⟨hp ▸ h.params, hr ▸ hp ▸ h.readWidth, hl ▸ h.l2Lines, fun b hm => hc b ▸ h.heldBack b (hh ▸ hm),
    hp ▸ ht ▸ h.hot⟩

theorem State.Inv.core {s : State} (h : s.Inv) (x : CoreId) : (s.core x).Wf s.params :=
  ⟨h.counters x, h.gpWidth x, h.fixedWidth x, h.l1dLines x, h.l1iLines x, h.pipeline x⟩

theorem State.Inv.uncore {s : State} (h : s.Inv) : s.UncoreWf := ⟨h.params, h.readWidth, h.l2Lines, h.heldBack, h.hot⟩

/-- The invariant, from its demands on the cores, outside them, and on the counters to be served. -/
theorem State.Inv.of_parts {s : State} (hc : ∀ x, (s.core x).Wf s.params) (hu : s.UncoreWf)
    (ht : ∀ c ∈ s.turn, s.hasCounter c = true) : s.Inv where
  params := hu.params
  counters x := (hc x).counters
  gpWidth x := (hc x).gpWidth
  fixedWidth x := (hc x).fixedWidth
  readWidth := hu.readWidth
  l2Lines := hu.l2Lines
  l1dLines x := (hc x).l1dLines
  l1iLines x := (hc x).l1iLines
  turnExists := ht
  heldBack := hu.heldBack
  pipeline x := (hc x).pipeline
  hot := hu.hot

/-- A change that keeps the parameters and brings no counter to be served needs only its cores and the rest checked. -/
theorem State.Inv.of_change {s t : State} (h : s.Inv) (hp : t.params = s.params) (ht : ∀ c ∈ t.turn, c ∈ s.turn)
    (hc : ∀ x, (t.core x).Wf s.params) (hu : t.UncoreWf) : t.Inv :=
  .of_parts (fun x => hp ▸ hc x) hu fun c hm =>
    hasCounter_congr hp (fun x => (hc x).counters.trans (h.core x).counters.symm) c ▸ h.turnExists c (ht c hm)

/-- A change outside the cores. -/
theorem State.Inv.of_uncore_change {s t : State} (h : s.Inv) (hp : t.params = s.params) (ht : t.turn = s.turn)
    (hc : ∀ x, t.core x = s.core x) (hu : t.UncoreWf) : t.Inv :=
  h.of_change hp (fun _ hm => ht ▸ hm) (fun x => hc x ▸ h.core x) hu

/-- A change of nothing that the invariant reads. -/
theorem State.Inv.of_same {s t : State} (h : s.Inv) (hu : t.uncore = s.uncore) (ht : t.turn = s.turn)
    (hc : ∀ x, t.core x = s.core x) : t.Inv :=
  h.of_uncore_change (congrArg Prod.fst hu) ht hc (h.uncore.of_uncore hu)

/-! ## The operations that every input is made of -/

theorem State.Inv.modCore {s : State} (h : s.Inv) {x : CoreId} {f : Core → Core} (hf : (f (s.core x)).Wf s.params) :
    (s.modCore x f).Inv := by
  refine h.of_change (modCore_params s x f) (fun c hm => modCore_turn s x f ▸ hm) (fun y => ?_)
    (h.uncore.of_uncore (by cases x <;> rfl))
  by_cases hy : y = x
  · rw [hy, modCore_core]; exact hf
  · rw [modCore_core_other s x f hy]; exact h.core y

theorem State.Inv.setCore {s : State} (h : s.Inv) {x : CoreId} {c : Core} (hc : c.Wf s.params) : (s.setCore x c).Inv :=
  h.modCore (f := fun _ => c) hc

/-- Changing fields of a core that the invariant does not read. -/
theorem State.Inv.modCore_same {s : State} (h : s.Inv) {x : CoreId} {f : Core → Core}
    (e : (f (s.core x)).bounded = (s.core x).bounded) : (s.modCore x f).Inv := h.modCore ((h.core x).of_bounded e)

theorem State.Inv.begin {s : State} (h : s.Inv) (m : Moment) : (s.begin m).Inv :=
  .of_parts h.core (h.uncore.of_uncore rfl) fun _ hc => hasCounter_of_mem_listening hc

theorem State.Inv.followedBy {s : State} (h : s.Inv) (l : List Input) : (s.followedBy l).Inv :=
  h.of_same rfl rfl fun _ => rfl

theorem State.Inv.setQueue {s : State} (h : s.Inv) (l : List Input) : State.Inv { s with queue := l } :=
  h.of_same rfl rfl fun _ => rfl

theorem State.Inv.setBus {s : State} (h : s.Inv) (b : Bus) : State.Inv { s with bus := b } :=
  h.of_same rfl rfl fun _ => rfl

theorem State.Inv.setL2 {s : State} (h : s.Inv) (n : Nat) (st : LineState) :
    State.Inv { s with l2 := setLine s.l2 n st } :=
  h.of_uncore_change rfl rfl (fun _ => rfl)
    ⟨h.params, h.readWidth, setLine_wf _ n st h.l2Lines, h.heldBack, h.hot⟩

end Sys2Proof.Machine
end

section
/-! Every operation of the history keeps the invariant, in the order of History.lean, and so does every step (O36). -/

namespace Sys2Proof.Machine

/-! ## Clocks, transitions, temperature -/

theorem canSubmit_eq_false {s : State} {t : BusTrans} :
    s.canSubmit t = false ↔ s.bnrLeft ≠ 0 ∨ (t.needsSnoop = true ∧ s.snoopStallLeft ≠ 0) := by
  rw [State.canSubmit, Bool.and_eq_false_iff]
  simp

/-- What has to wait, waits still when BNR or a snoop stall is asserted for longer (rule R560). -/
theorem canSubmit_eq_false_of_le {s t : State} {b : BusTrans} (hb : s.bnrLeft ≤ t.bnrLeft)
    (hs : s.snoopStallLeft ≤ t.snoopStallLeft) (h : s.canSubmit b = false) : t.canSubmit b = false := by
  rw [canSubmit_eq_false] at h ⊢
  exact h.imp (fun h => by omega) fun ⟨hn, h⟩ => ⟨hn, by omega⟩

theorem State.Inv.workOff {s : State} (h : s.Inv) (t : Tick) : (s.workOff t).Inv := by
  refine h.of_change rfl (fun _ hm => hm) (fun x => ?_) (h.uncore.of_uncore rfl)
  rw [workOff_core]
  split
  · exact (h.core x).of_bounded rfl
  · exact h.core x

theorem State.Inv.setClock {s : State} (h : s.Inv) (tsc credit : Nat) :
    State.Inv { s with tsc := tsc, refCredit := credit } := h.of_same rfl rfl fun _ => rfl

/-- BNR and the snoop stall may run off, where what can be submitted then waits no longer (rule R560). -/
theorem State.Inv.runOff {s : State} (h : s.Inv) (bnr stall credit : Nat) :
    State.Inv { s with
      bnrLeft := bnr, snoopStallLeft := stall, refCredit := credit
      heldBack := s.heldBack.filter fun b =>
        !State.canSubmit { s with bnrLeft := bnr, snoopStallLeft := stall, refCredit := credit } b } := by
  refine h.of_uncore_change rfl rfl (fun _ => rfl) ⟨h.params, h.readWidth, h.l2Lines, fun b hb => ?_, h.hot⟩
  exact Bool.not_eq_true' _ ▸ (List.mem_filter.1 hb).2

theorem State.Inv.tickClock {s : State} (h : s.Inv) (t : Tick) : (s.tickClock t).Inv := by
  cases t with
  | core x => exact (h.workOff _).begin _
  | bus => exact (((h.workOff .bus).runOff _ _ _).followedBy _).begin _
  | ref =>
    simp only [State.tickClock]
    split
    · exact h
    · exact ((h.workOff .ref).setClock _ _).begin _

theorem State.Inv.makeTransition {s : State} (h : s.Inv) (x : CoreId) (t : Transition) : (s.makeTransition x t).Inv :=
  (h.modCore_same rfl).begin _

/-- Changing both cores in fields that the invariant does not read, and the thermal state so that a processor over the
threshold has tripped (rule R31). -/
theorem State.Inv.setThermal {s : State} (h : s.Inv) (f : Core → Core) (hf : ∀ c, (f c).bounded = c.bounded)
    (t : Thermal) (ht : exceedsTrip s.params t.temperature = true → t.tripped = true) :
    State.Inv { s with thermal := t, core0 := f s.core0, core1 := f s.core1 } := by
  refine h.of_change rfl (fun _ hm => hm) (fun x => ?_) ⟨h.params, h.readWidth, h.l2Lines, h.heldBack, ht⟩
  cases x
  exacts [(h.core .c0).of_bounded (hf _), (h.core .c1).of_bounded (hf _)]

theorem State.Inv.setTemperature {s : State} (h : s.Inv) (n : Nat) : (s.setTemperature n).Inv := by
  unfold State.setTemperature
  split
  · exact (h.setThermal Core.throttle (fun _ => rfl) ⟨n, true⟩ fun _ => rfl).begin _
  · next hn => exact h.setThermal id (fun _ => rfl) ⟨n, s.thermal.tripped⟩ fun he => by simpa [he] using hn

/-- A processor below the threshold is not over it. -/
theorem State.Inv.thermalCheck {s : State} (h : s.Inv) : s.thermalCheck.Inv := by
  unfold State.thermalCheck
  split
  · next hb =>
    refine h.setThermal Core.unthrottle (fun _ => rfl) ⟨s.thermal.temperature, false⟩ fun he => ?_
    simp only [belowTrip, exceedsTrip, Bool.and_eq_true, decide_eq_true_eq] at hb he
    omega
  · exact h

/-! ## The pipeline: restarts, loads, retirement -/

theorem State.Inv.restart {s : State} (h : s.Inv) (x : CoreId) (k : Nuke) (n : InFlight) (f : Nat) (l : List DataRef) :
    (s.restart x k n f l).Inv := (h.modCore ((h.core x).abandoned _ f l)).begin _

theorem State.Inv.blockLoad {s : State} (h : s.Inv) (x : CoreId) (b : LoadBlock) : (s.blockLoad x b).Inv :=
  (h.modCore_same rfl).begin _

theorem State.Inv.occur {s : State} (h : s.Inv) (x : CoreId) (o : Occ) : (s.occur x o).Inv := by
  unfold State.occur
  split
  · exact h.blockLoad x _
  · exact h.begin _

theorem State.Inv.makeRef {s : State} (h : s.Inv) (x : CoreId) (a : DataRef) : (s.makeRef x a).Inv := by
  obtain ⟨-, e⟩ | ⟨-, -, e⟩ | ⟨-, -, e⟩ := makeRef_cases s x a <;> rw [e]
  exacts [h, h.blockLoad x _, h.begin _]

theorem State.Inv.makeRetiredRef {s : State} (h : s.Inv) (x : CoreId) (a : DataRef) : (s.makeRetiredRef x a).Inv := by
  obtain ⟨-, e⟩ | ⟨-, e⟩ := makeRetiredRef_cases s x a <;> rw [e]
  exacts [h, h.begin _]

theorem State.Inv.startLocks {s : State} (h : s.Inv) (x : CoreId) (l : List DataRef) : (s.startLocks x l).Inv :=
  State.Inv.setBus (h.modCore_same rfl) _

/-- Whatever retires is in the pipe and has executed, so that the bounds of the pipeline are kept (rules R15 and R73). -/
theorem State.Inv.retire {s : State} (h : s.Inv) (x : CoreId) (u : RetiredUop) : (s.retire x u).Inv := by
  unfold State.retire
  split
  · exact h
  · next hn =>
    have hu : (s.core x).canRetire u := Core.holdsRetirement_eq_false.1 (Bool.eq_false_iff.2 hn)
    have hc : ((s.core x).retired u).Wf s.params :=
      (h.core x).of_elsewhere ((s.core x).retired_elsewhere u) (Core.retired_wf hu (h.core x).pipeline)
    exact (((h.modCore hc).startLocks x _).followedBy _).begin _

theorem State.Inv.endLock {s : State} (h : s.Inv) (x : CoreId) (a : DataRef) : (s.endLock x a).Inv := by
  unfold State.endLock
  split
  · exact h.setBus _
  · exact h.modCore_same rfl

theorem State.Inv.startPageWalk {s : State} (h : s.Inv) (x : CoreId) (b : Bool) : (s.startPageWalk x b).Inv :=
  State.Inv.begin (State.Inv.setBus (h.modCore_same rfl) _) _

theorem State.Inv.endPageWalk {s : State} (h : s.Inv) (x : CoreId) (b : Bool) : (s.endPageWalk x b).Inv :=
  State.Inv.setBus (h.modCore_same rfl) _

theorem State.Inv.updateSegment {s : State} (h : s.Inv) (x : CoreId) (r : SegReg) : (s.updateSegment x r).Inv := by
  unfold State.updateSegment
  split
  · exact h.begin _
  · exact (h.modCore ((h.core x).setSegment r _)).begin _

theorem State.Inv.useEsp {s : State} (h : s.Inv) (x : CoreId) : (s.useEsp x).Inv := by
  unfold State.useEsp
  split
  · exact (h.modCore_same rfl).begin _
  · exact h

/-! ## Translation, decoding, control registers -/

theorem State.Inv.flushItlb {s : State} (h : s.Inv) (x : CoreId) : (s.flushItlb x).Inv := (h.modCore_same rfl).begin _

theorem State.Inv.writeControl {s : State} (h : s.Inv) (x : CoreId) (toCr3 : Bool) (v : Nat) (flushes : Bool) :
    (s.writeControl x toCr3 v flushes).Inv := by
  have hw : (s.modCore x fun c =>
      { c with regs := if toCr3 then { c.regs with cr3 := v } else { c.regs with cr0 := v } }).Inv := h.modCore_same rfl
  cases flushes
  exacts [hw, hw.flushItlb x]

theorem State.Inv.decodeLength {s : State} (h : s.Inv) (x : CoreId) (d : LengthDecode) : (s.decodeLength x d).Inv := by
  unfold State.decodeLength
  split
  · exact h.modCore_same rfl
  · exact h

/-! ## Caches and prefetch -/

theorem State.Inv.sendLoad {s : State} (h : s.Inv) (x : CoreId) (b : Access) : (s.sendLoad x b).Inv := by
  obtain ⟨-, e⟩ | ⟨-, e⟩ := sendLoad_cases s x b <;> rw [e]
  exacts [h, h.begin _]

theorem State.Inv.fetchInst {s : State} (h : s.Inv) (x : CoreId) (f : Fetch) : (s.fetchInst x f).Inv := by
  obtain ⟨-, e⟩ | ⟨-, e⟩ := fetchInst_cases s x f <;> rw [e]
  exacts [h, h.begin _]

theorem State.Inv.setL1dLine {s : State} (h : s.Inv) (x : CoreId) (line : Nat) (st : LineState) :
    (s.modCore x fun c => { c with l1d := setLine c.l1d line st }).Inv := h.modCore ((h.core x).setL1d line st)

theorem State.Inv.snoopCore {s : State} (h : s.Inv) (x : CoreId) (line : Nat) (k : SnoopKind)
    (after : Option LineState) : (s.snoopCore x line k after).Inv :=
  have hl := (h.core x).setL1d line (afterCoreSnoop k after (lineState (s.core x).l1d line))
  (h.modCore (hl.of_bounded rfl)).begin _

theorem State.Inv.evictL1d {s : State} (h : s.Inv) (x : CoreId) (line : Nat) : (s.evictL1d x line).Inv :=
  ((h.setL1dLine x line .i).followedBy _).begin _

theorem State.Inv.setL1dState {s : State} (h : s.Inv) (x : CoreId) (line : Nat) (st : LineState) :
    (s.setL1dState x line st).Inv := by
  obtain ⟨-, -, e⟩ | ⟨-, e⟩ := setL1dState_cases s x line st <;> rw [e]
  exacts [h.evictL1d x line, h.setL1dLine x line st]

theorem State.Inv.evictL2 {s : State} (h : s.Inv) (x : CoreId) (line : Nat) (hw : Bool) : (s.evictL2 x line hw).Inv :=
  ((h.setL2 line .i).followedBy _).begin _

theorem State.Inv.setL2State {s : State} (h : s.Inv) (line : Nat) (st : LineState) : (s.setL2State line st).Inv :=
  (h.setL2 line st).followedBy _

theorem State.Inv.endPrefetch {s : State} (h : s.Inv) (x : CoreId) (k : SsePrefetch) (a : Nat) (st : LineState) :
    (s.endPrefetch x k a st).Inv := by
  simp only [State.endPrefetch]
  split
  · exact State.Inv.followedBy (h.modCore_same rfl) _
  · exact h

theorem State.Inv.prefetchByDpl {s : State} (h : s.Inv) (x : CoreId) (d : Direction) (line : Nat) (st : LineState) :
    (s.prefetchByDpl x d line st).Inv := (h.followedBy _).begin _

/-! ## The bus -/

/-- A request moves to the bus queue only where this has no entry for its set (rule R40 (f)). -/
theorem State.Inv.requestBus {s : State} (h : s.Inv) (x : CoreId) (r : L2Req) (set : Nat) :
    (s.requestBus x r set).Inv := by
  unfold State.requestBus
  split
  · next hq => exact h.modCore ((h.core x).of_elsewhere rfl (Core.queueLine_wf set hq (h.core x).pipeline))
  · exact h.begin _

/-- Only a transaction that cannot be submitted is held back (rule R560). -/
theorem State.Inv.submit {s : State} (h : s.Inv) (t : BusTrans) : (s.submit t).Inv := by
  unfold State.submit
  split
  · exact (h.followedBy _).begin _
  · next hn =>
    refine h.of_uncore_change rfl rfl (fun _ => rfl) ⟨h.params, h.readWidth, h.l2Lines, fun b hb => ?_, h.hot⟩
    obtain hb | hb := List.mem_append.1 hb
    · exact h.heldBack b hb
    · rw [List.mem_singleton.1 hb]; exact Bool.eq_false_iff.2 hn

/-- BNR or a snoop stall asserted for longer (rule R560). -/
theorem State.Inv.stallBus {s : State} (h : s.Inv) (m n : Nat) :
    State.Inv { s with bnrLeft := s.bnrLeft + m, snoopStallLeft := s.snoopStallLeft + n } :=
  h.of_uncore_change rfl rfl (fun _ => rfl) ⟨h.params, h.readWidth, h.l2Lines,
    fun b hb => canSubmit_eq_false_of_le (Nat.le_add_right ..) (Nat.le_add_right ..) (h.heldBack b hb), h.hot⟩

theorem State.Inv.receiveInterrupt {s : State} (h : s.Inv) (x : CoreId) : (s.receiveInterrupt x).Inv :=
  have hd := (h.core x).drain .interruptAcknowledgment
  (h.modCore (hd.of_bounded rfl)).begin _

/-! ## What an accepted input does -/

theorem acceptSelect_next {s t : State} {x : CoreId} {k : Nat} {e u : Byte} (h : s.acceptSelect x k e u = .next t) :
    k < (s.core x).gp.length ∧ t = s.selectEvent x k e u := by
  unfold State.acceptSelect at h
  split at h
  · next hk => exact ⟨hk, (Host.Outcome.next.inj h).symm⟩
  · cases h

theorem acceptRead_next {s t : State} {c : CounterId} (h : s.acceptRead c = .next t) :
    s.hasCounter c = true ∧ t = s.readCounter c := by
  unfold State.acceptRead at h
  split at h
  · next hc => exact ⟨hc, (Host.Outcome.next.inj h).symm⟩
  · cases h

/-- What a read by register address does where it is accepted (rule R84): it reads a counter that exists. -/
theorem acceptReadMsr_next {s t : State} {x : CoreId} {a : Nat} (hx : s.hasCore x = true)
    (h : s.acceptReadMsr x a = .next t) : ∃ c, s.hasCounter c = true ∧ t = s.readCounter c := by
  unfold State.acceptReadMsr at h
  split at h
  · next f _ => exact ⟨.fixed x f, hx, (Host.Outcome.next.inj h).symm⟩
  · next k _ => exact ⟨.gp x k, acceptRead_next h⟩
  · cases h
  · cases h

/-- What a write by register address does where it is accepted (rule R84): it selects. -/
theorem acceptWriteMsr_next {s t : State} {x : CoreId} {a w : Nat} (h : s.acceptWriteMsr x a w = .next t) :
    ∃ k e u, registerAt s.params a = some (.evtsel k) ∧ k < (s.core x).gp.length ∧ t = s.selectEvent x k e u := by
  unfold State.acceptWriteMsr at h
  split at h
  · next k hr => exact ⟨k, _, _, hr, acceptSelect_next h⟩
  · cases h
  · cases h

/-- An input that is accepted is about a core that exists, where it is about one. -/
theorem accept_hasCore {s t : State} {i : Input} (h : s.accept i = .next t) : ∀ x ∈ i.core?, s.hasCore x = true := by
  unfold State.accept at h
  split at h
  · next hc => exact fun x hx => by rwa [Option.mem_def.1 hx] at hc
  · cases h

/-- Everything an accepted input can do: it advances the history, or it selects the event of a counter that exists, or
it reads one. -/
theorem accept_next {s t : State} {i : Input} (h : s.accept i = .next t) :
    t = s.advance i ∨
    (∃ x k e u, (i = .select x k e u ∨ ∃ a w, i = .writeMsr x a w ∧ registerAt s.params a = some (.evtsel k)) ∧
      k < (s.core x).gp.length ∧ t = s.selectEvent x k e u) ∨
    (∃ c, (i = .read c ∨ ∃ x a, i = .readMsr x a) ∧ s.hasCounter c = true ∧ t = s.readCounter c) := by
  have hcore := accept_hasCore h
  unfold State.accept at h
  rw [if_pos (by cases hi : i.core? <;> simp_all)] at h
  split at h
  · exact .inr (.inl ⟨_, _, _, _, .inl rfl, acceptSelect_next h⟩)
  · exact .inr (.inr ⟨_, .inl rfl, acceptRead_next h⟩)
  · next x a =>
    obtain ⟨c, hc⟩ := acceptReadMsr_next (hcore x rfl) h
    exact .inr (.inr ⟨c, .inr ⟨x, a, rfl⟩, hc⟩)
  · next x a w =>
    obtain ⟨k, e, u, hr, hk⟩ := acceptWriteMsr_next h
    exact .inr (.inl ⟨x, k, e, u, .inr ⟨a, w, rfl, hr⟩, hk⟩)
  · exact .inl (Host.Outcome.next.inj h).symm

/-! ## Inputs -/

/-- Every input other than an operation of software on counters keeps the invariant. -/
theorem State.Inv.advance {s : State} (h : s.Inv) (i : Input) : (s.advance i).Inv := by
  cases i <;> dsimp only [State.advance]
  case startFixed x => exact h.setCore (h.core x).startFixed
  case tick t => exact h.tickClock t
  case setPipe | setPredictors | setRegs | halt | wake | disableInterrupts | setTlb | prefetchStart | fpcwWrite =>
    exact h.modCore_same rfl
  case enterPipe x load store =>
    exact h.modCore ((h.core x).of_elsewhere (Core.enter_elsewhere ..) (Core.enter_wf load store (h.core x).pipeline))
  case execute x =>
    exact h.modCore ((h.core x).of_elsewhere (Core.executed_elsewhere _) (Core.executed_wf (h.core x).pipeline))
  case abandon x n fences loads => exact h.modCore ((h.core x).abandoned n fences loads)
  case nuke x k n fences loads => exact h.restart x k n fences loads
  case storeWait x =>
    exact h.modCore ((h.core x).of_elsewhere (Core.storeWaits_elsewhere _) (Core.storeWaits_wf (h.core x).pipeline))
  case storeCommit x =>
    exact h.modCore ((h.core x).of_elsewhere (Core.storeCommits_elsewhere _) (Core.storeCommits_wf (h.core x).pipeline))
  case drain x cause => exact h.modCore ((h.core x).drain cause)
  case fence x =>
    exact h.modCore ((h.core x).of_elsewhere (Core.fence_elsewhere _) (Core.fence_wf (h.core x).pipeline))
  case ioRequest x =>
    exact h.modCore ((h.core x).of_elsewhere (Core.requestIo_elsewhere _) (Core.requestIo_wf (h.core x).pipeline))
  case busRequest x r set => exact h.requestBus x r set
  case dequeue x e => exact h.modCore ((h.core x).of_elsewhere rfl (Core.dequeue_wf e (h.core x).pipeline))
  case setBus b => exact h.setBus b
  case transition x t => exact h.makeTransition x t
  case temperature n => exact h.setTemperature n
  case millisecond => exact h.thermalCheck
  case interrupt x => exact h.receiveInterrupt x
  case takeInterrupt x =>
    split
    · exact h.modCore_same rfl
    · exact h
  case occ x o => exact h.occur x o
  case segmentLoad x r v retires =>
    refine State.Inv.begin (h.modCore ?_) _
    cases retires
    exacts [h.core x, (h.core x).setSegment r _]
  case segmentUpdate x r => exact h.updateSegment x r
  case segmentRetire x r => exact h.modCore ((h.core x).setSegment r _)
  case pageWalkStart x b => exact h.startPageWalk x b
  case pageWalkEnd x b => exact h.endPageWalk x b
  case dataAccess | fpOp | l2Request | l2Reject | snoopResponse => exact h.begin _
  case l2LineIn _ line st _ => exact (h.setL2 line st).begin _
  case l2LineOut x line hw => exact h.evictL2 x line hw
  case l2LineState line st => exact h.setL2State line st
  case dataRef x a => exact h.makeRef x a
  case retiredRef x a => exact h.makeRetiredRef x a
  case l1dLineIn x line st => exact (h.setL1dLine x line st).begin _
  case l1dLineOut x line => exact h.evictL1d x line
  case writeBackToL2 _ line => exact (h.setL2 line .m).begin _
  case l1dLineState x line st => exact h.setL1dState x line st
  case l1iLineState x line st => exact h.modCore ((h.core x).setL1i line st)
  case loadSent x b => exact h.sendLoad x b
  case prefetchEnd x k a st => exact h.endPrefetch x k a st
  case lockEnd x a => exact h.endLock x a
  case coreSnoop x line k after => exact h.snoopCore x line k after
  case fetch x f => exact h.fetchInst x f
  case itlbFlush x => exact h.flushItlb x
  case controlWrite x toCr3 v flushes => exact h.writeControl x toCr3 v flushes
  case lengthDecode x d => exact h.decodeLength x d
  case espExplicit x => exact h.useEsp x
  case espImplicit | fpInst | mmxInst | emms | fpswWrite => exact State.Inv.begin (h.modCore_same rfl) _
  case retire x u => exact h.retire x u
  case dplPrefetch x d line st => exact h.prefetchByDpl x d line st
  case bnr => exact (h.stallBus 2 0).begin _
  case snoopStall => exact (h.stallBus 0 2).begin _
  case busTrans t => exact h.submit t
  case select | read | readMsr | writeMsr => exact h

theorem State.Inv.selectEvent {s : State} (h : s.Inv) (x : CoreId) (k : Nat) (e u : Byte) :
    (s.selectEvent x k e u).Inv := h.setCore ((h.core x).setGp k _ (Nat.two_pow_pos _))

/-- An answer of `read` of CTR_WIDTH bits (rules R26 and R112). -/
theorem State.Inv.answer {s : State} (h : s.Inv) (v n : Nat) (hv : v < 2 ^ s.params.ctrWidth) :
    State.Inv { s with readout := some v, drawn := n } :=
  h.of_uncore_change rfl rfl (fun _ => rfl)
    ⟨h.params, fun w hw => by rw [← Option.some.inj hw]; exact hv, h.l2Lines, h.heldBack, h.hot⟩

theorem State.Inv.answersAny {s : State} (h : s.Inv) : s.answersAny.Inv :=
  h.answer _ _ (Nat.mod_lt _ (Nat.two_pow_pos _))

theorem State.Inv.readCounter {s : State} (h : s.Inv) (c : CounterId) : (s.readCounter c).Inv := by
  unfold State.readCounter
  split
  · split
    · exact h
    · next g hg =>
      split
      · exact h.answer g.pmc s.drawn (h.gpWidth _ g (List.mem_of_getElem? hg))
      · exact h.answersAny
  · split
    · exact h.answer _ s.drawn (h.fixedWidth _ _)
    · exact h.answersAny

/-- Whatever input the machine accepts, it keeps the invariant. -/
theorem State.Inv.accept {s t : State} {i : Input} (h : s.Inv) (ha : s.accept i = .next t) : t.Inv := by
  obtain rfl | ⟨x, k, e, u, -, -, rfl⟩ | ⟨c, -, -, rfl⟩ := accept_next ha
  exacts [h.advance i, h.selectEvent x k e u, h.readCounter c]

/-! ## Steps -/

theorem State.Inv.addTo {s : State} (h : s.Inv) (c : CounterId) (n : Nat) : (s.addTo c n).Inv := by
  refine h.of_change (addTo_params s c n) (fun _ hm => addTo_turn s c n ▸ hm) (fun y => ?_)
    (h.uncore.of_uncore (congrArg State.uncore (activity_addTo s c n) :))
  obtain e | ⟨x, k, g, -, -, -, e⟩ | ⟨x, f, -, -, e⟩ := addTo_cases s c n <;> rw [e]
  · exact h.core y
  · rw [drawApprox_core, setCore_core_eq]
    split
    · next hy => exact hy ▸ (h.core x).setGp k _ (held_lt s _)
    · exact h.core y
  · rw [drawApprox_core, setCore_core_eq]
    split
    · exact (h.core x).setFixedCtr f _ (held_lt s _)
    · exact h.core y

theorem State.Inv.served {s : State} (h : s.Inv) {c : CounterId} {rest : List CounterId} (ht : s.turn = c :: rest) :
    (s.served rest).Inv :=
  h.of_change rfl (fun _ hm => ht ▸ List.mem_cons_of_mem c hm) h.core (h.uncore.of_uncore rfl)

/-- Settles O36: a step passes the turn on, counts on one counter, stays as it is, or accepts an input, and each keeps
the invariant. -/
theorem stepKeepsInvariant : Obligations.StepKeepsInvariant := by
  intro s t h hs
  obtain ⟨c, rest, ht, -, e⟩ | ⟨c, rest, i, ht, -, -, e⟩ | ⟨c, rest, i, n, ht, -, -, e⟩ | ⟨-, -, e⟩ |
    ⟨i, rest, -, -, e⟩ := step_cases s <;> rw [e] at hs
  · exact Host.Outcome.next.inj hs ▸ h.served ht
  · exact Host.Outcome.next.inj hs ▸ h.served ht
  · exact Host.Outcome.next.inj hs ▸ (h.addTo c n).served ((addTo_turn s c n).trans ht)
  · exact Host.Outcome.next.inj hs ▸ h
  · exact (h.setQueue rest).accept hs

end Sys2Proof.Machine
end

section
/-! What a row gains in a moment, by its format and its unit (O33, O40 and O41): every event adds to the one counter it
is served on what the moment is worth, which is nothing off the clock of the row and at most 1 in a cycle of it. -/

namespace Sys2Proof.Machine

/-! ## What a moment is worth (rules R12 and R14) -/

/-- An amount that only a moment which is no cycle brings. -/
def OffTicks (s : State) (n : Nat) : Prop := ∀ t, s.now = .tick t → n = 0

/-- An amount of at most `b` that only a cycle `t` brings. -/
def AtTick (s : State) (t : Tick) (b n : Nat) : Prop := (s.now ≠ .tick t → n = 0) ∧ n ≤ b

theorem onOcc_offTicks (s : State) (x : CoreId) (w : Occ → Nat) : OffTicks s (s.onOcc x w) :=
  fun t h => by simp [State.onOcc, h]

theorem onFound_offTicks (s : State) (x : CoreId) (w : Found → Nat) : OffTicks s (s.onFound x w) :=
  fun t h => by simp [State.onFound, h]

theorem onFoundIn_offTicks (s : State) (w : CoreId → Found → Nat) : OffTicks s (s.onFoundIn w) :=
  fun t h => by simp [State.onFoundIn, h]

theorem onSys_offTicks (s : State) (w : SysOcc → Nat) : OffTicks s (s.onSys w) := fun t h => by simp [State.onSys, h]

theorem ite_atTick (s : State) (t : Tick) (n : Nat) : AtTick s t n (if s.now = .tick t then n else 0) :=
  ⟨fun h => if_neg h, by split <;> omega⟩

theorem onCoreCycle_atTick (s : State) (x : CoreId) (n : Nat) : AtTick s (.core x) n (s.onCoreCycle x n) :=
  ite_atTick s _ n

theorem onBusCycle_atTick (s : State) (n : Nat) : AtTick s .bus n (s.onBusCycle n) := ite_atTick s _ n

theorem onRefCycle_atTick (s : State) (n : Nat) : AtTick s .ref n (s.onRefCycle n) := ite_atTick s _ n

/-- A row that names no clock counts at the cycles of UNNAMED_CYCLE_CLOCK (D8). -/
theorem onCycle_atTick (s : State) (x : CoreId) (n : Nat) : AtTick s (unnamedTick s x) n (s.onCycle x n) := by
  unfold State.onCycle unnamedTick
  cases s.params.unnamedClock
  exacts [onCoreCycle_atTick s x n, onBusCycle_atTick s n, onRefCycle_atTick s n]

theorem AtTick.mono {s : State} {t : Tick} {a b n : Nat} (h : AtTick s t a n) (hab : a ≤ b) : AtTick s t b n :=
  ⟨h.1, Nat.le_trans h.2 hab⟩

/-- At most one micro-op is dispatched on each of the six ports (rule R554). -/
theorem dispatched_le (p : Pipe) : p.dispatched ≤ 6 := by
  have h := fun b => Bool.toNat_le b
  have := h p.port0; have := h p.port1; have := h p.port2; have := h p.port3; have := h p.port4; have := h p.port5
  unfold Pipe.dispatched
  omega

/-! ## What a row gains -/

/-- What the row `i` may gain on a counter of core `x` in the moment being counted: a row that counts occurrences
nothing in a cycle, the dispatch of micro-ops apart, and a row of a clock nothing off its cycles, and in one of them at
most 1, the accumulations apart. -/
def RowGain (i : Instr) (s : State) (x : CoreId) (n : Nat) : Prop :=
  match countingTick i s x with
  | none => (i ≠ .rsUopsDispatched → OffTicks s n) ∧ (i = .rsUopsDispatched → AtTick s (unnamedTick s x) 6 n)
  | some t => (s.now ≠ .tick t → n = 0) ∧ (i.unit ≠ .accumulation → n ≤ 1)

/-- The outcome adds to the counter being served, where it is a general-purpose one, an amount of which `P` holds. -/
def AddsOnGp (s : State) (P : CoreId → Nat → Prop) (o : Host.Outcome State Fault Refusal) : Prop :=
  ∃ w : CoreId → Nat, o = countGp s w ∧ ∀ x, P x (w x)

theorem countGp_adds {s : State} {P : CoreId → Nat → Prop} {w : CoreId → Nat} (h : ∀ x, P x (w x)) :
    AddsOnGp s P (countGp s w) := ⟨w, rfl, h⟩

theorem countGp_zero (s : State) : countGp s (fun _ => 0) = .next s := by
  unfold countGp
  split
  · rw [addTo_zero]
  · rfl

/-- Under a unit mask that no table accepts a composed row adds nothing. -/
theorem countQualified_adds {s : State} {P : CoreId → Nat → Prop} {qs : List Qualifier} {u : Byte}
    {w : Settings → CoreId → Nat} (h0 : ∀ x, P x 0) (h : ∀ q x, P x (w q x)) :
    AddsOnGp s P (countQualified s qs u w) := by
  unfold countQualified
  split
  · exact countGp_adds (h _)
  · exact ⟨fun _ => 0, (countGp_zero s).symm, h0⟩

theorem offTicks_zero (s : State) : OffTicks s 0 := fun _ _ => rfl

theorem OffTicks.rowGain {s : State} {i : Instr} {t : Tick} {n : Nat} (h : OffTicks s n)
    (hi : i ≠ .rsUopsDispatched) : (i ≠ .rsUopsDispatched → OffTicks s n) ∧ (i = .rsUopsDispatched → AtTick s t 6 n) :=
  ⟨fun _ => h, fun e => absurd e hi⟩

theorem AtTick.rowGain {s : State} {t : Tick} {i : Instr} {n : Nat} (h : AtTick s t 1 n) :
    (s.now ≠ .tick t → n = 0) ∧ (i.unit ≠ .accumulation → n ≤ 1) := ⟨h.1, fun _ => h.2⟩

/-- Every event of Table A-1 or A-3 adds to a general-purpose counter what its row may gain, and to no other counter
(rules R8 and R543). -/
theorem exec_addsOnGp (i : Instr) (s : State) (hf : i.format ≠ .fixedCounter) :
    AddsOnGp s (RowGain i s) (exec i s) := by
  cases i
  case fixedInstrRetiredAny | fixedCpuClkUnhaltedCore | fixedCpuClkUnhaltedRef => exact absurd rfl hf
  case rsUopsDispatched =>
    exact countGp_adds fun x => ⟨fun h => absurd rfl h, fun _ => (onCycle_atTick s x _).mono (dispatched_le _)⟩
  case l1dPendMiss => exact countGp_adds fun x => ⟨(onCoreCycle_atTick s x _).1, fun h => absurd rfl h⟩
  case busRequestOutstanding u =>
    exact countQualified_adds (fun x => ⟨fun _ => rfl, fun h => absurd rfl h⟩)
      fun q x => ⟨(onCycle_atTick s x _).1, fun h => absurd rfl h⟩
  case loadBlockSta | loadBlockStd | loadBlockOverlapStore | loadBlockUntilRetire | loadBlockL1d | ssePreExecNta |
      ssePreExecL1 | ssePreExecL2 | ssePreExecStores | memoryDisambiguationSuccess | fpCompOpsExe | mul | div |
      delayedBypassFp | delayedBypassSimd | ssePreMissNta | ssePreMissL1 | ssePreMissL2 | l1dPrefetchRequests | brInstExec
      | brMispExec | brBacMispExec | brCndExec | brCndMisspExec | brIndExec | brIndMisspExec | brRetExec | brRetMisspExec
      | brRetBacMisspExec | brCallExec | brCallMisspExec | brIndCallExec | brTknBubble1 | brTknBubble2 | macroInstsDecoded
      | macroInstsCiscDecoded | simdUopsExec | simdSatUopExec | simdUopTypeExecMul | simdUopTypeExecShift |
      simdUopTypeExecPack | simdUopTypeExecUnpack | simdUopTypeExecLogical | simdUopTypeExecArithmetic | x87OpsRetiredAny
      | memLoadRetiredL1dMiss | memLoadRetiredL1dLineMiss | memLoadRetiredL2Miss | memLoadRetiredL2LineMiss |
      memLoadRetiredDtlbMiss | brInstDecoded | bogusBr | baclears =>
    exact countGp_adds fun x => (onOcc_offTicks s x _).rowGain nofun
  case archInstructionRetired | archLlcReference | archLlcMisses | archBranchInstructionRetired |
      archBranchMissesRetired | segmentRegLoads | dtlbMissesAny | dtlbMissesMissLd | dtlbMissesL0MissLd | dtlbMissesMissSt
      | pageWalksCount | fpAssist | l2RqstsSelfDemandIState | l2RqstsSelfDemandMesi | eistTrans | l1dAllRef |
      l1dAllCacheRef | l1dRepl | l1dMRepl | l1dMEvict | l1dSplitLoads | l1dSplitStores | loadHitPre | l1lReads | l1lMisses
      | itlbSmallMiss | itlbLargeMiss | itlbFlush | itlbMisses | espSynch | espAdditions | instRetiredAnyP |
      instRetiredLoads | instRetiredStores | instRetiredOther | x87OpsRetiredFxch | uopsRetiredLdIndBr | uopsRetiredStdSta
      | uopsRetiredMacroFusion | uopsRetiredFused | uopsRetiredNonFused | uopsRetiredAny | machineNukesSmc |
      machineNukesMemOrder | brInstRetiredAny | brInstRetiredPredNotTaken | brInstRetiredMispredNotTaken |
      brInstRetiredPredTaken | brInstRetiredMispredTaken | brInstRetiredTaken | brInstRetiredMispred |
      simdInstRetiredPackedSingle | simdInstRetiredScalarSingle | simdInstRetiredPackedDouble |
      simdInstRetiredScalarDouble | simdInstRetiredVector | simdInstRetiredAny | hwIntRcv | itlbMissRetired |
      simdCompInstRetiredPackedSingle | simdCompInstRetiredScalarSingle | simdCompInstRetiredPackedDouble |
      simdCompInstRetiredScalarDouble | fpMmxTransToMmx | fpMmxTransToFp | simdAssist | simdInstrRetired |
      simdSatInstrRetired | ratStallsFpsw | segRenameStallsEs | segRenameStallsDs | segRenameStallsFs | segRenameStallsGs
      | segRenameStallsAny | segRegRenamesEs | segRegRenamesDs | segRegRenamesFs | segRegRenamesGs | segRegRenamesAny |
      prefRqstsUp | prefRqstsDn =>
    exact countGp_adds fun x => (onFound_offTicks s x _).rowGain nofun
  case thermalTrip =>
    exact countGp_adds fun _ => (onSys_offTicks s _).rowGain nofun
  case l1dCacheLd | l1dCacheSt | l1dCacheLock =>
    exact countQualified_adds (fun _ => (offTicks_zero s).rowGain nofun) fun _ x => (onFound_offTicks s x _).rowGain nofun
  case l2LinesIn | l2MLinesIn | l2LinesOut | l2MLinesOut | l2Ifetch | l2Ld | l2St | l2Lock | l2Rqsts | l2RejectBusq |
      cmpSnoop =>
    exact countQualified_adds (fun _ => (offTicks_zero s).rowGain nofun) fun _ _ => (onFoundIn_offTicks s _).rowGain nofun
  case busBnrDrv | busTransBrd | busTransRfo | busTransWb | busTransIfetch | busTransInvalid | busTransPwr | busTransP
      | busTransIo | busTransDef | busTransBurst | busTransMem | busTransAny | extSnoop | snoopStallDrv =>
    exact countQualified_adds (fun _ => (offTicks_zero s).rowGain nofun) fun _ _ => (onSys_offTicks s _).rowGain nofun
  case sbDrainCycles | storeBlockOrder | storeBlockSnoop | memoryDisambiguationReset | cyclesDivBusy | idleDuringDiv |
      delayedBypassLoad | l1dCacheLockDuration | instQueueFull | cyclesL1lMemStalled | ildStall | rsUopsDispatchedPort0 |
      rsUopsDispatchedPort1 | rsUopsDispatchedPort2 | rsUopsDispatchedPort3 | rsUopsDispatchedPort4 |
      rsUopsDispatchedPort5 | cyclesIntMasked | cyclesIntPendingAndMasked | ratStallsRobReadPort | ratStallsPartialCycles
      | ratStallsFlags | ratStallsAny | resourceStallsRobFull | resourceStallsRsFull | resourceStallsLdSt |
      resourceStallsFpcw | resourceStallsBrMissClear | resourceStallsAny =>
    exact countGp_adds fun x => ((onCycle_atTick s x _).mono (Bool.toNat_le _)).rowGain
  case archUnhaltedCoreCycles | pageWalksCycles | cpuClkUnhaltedCoreP =>
    exact countGp_adds fun x => ((onCoreCycle_atTick s x _).mono (Bool.toNat_le _)).rowGain
  case archUnhaltedReferenceCycles | cpuClkUnhaltedBus | cpuClkUnhaltedNoOther =>
    exact countGp_adds fun _ => ((onBusCycle_atTick s _).mono (Bool.toNat_le _)).rowGain
  case l2Ads | l2DbusBusyRd | l2NoReq | busqEmpty =>
    exact countQualified_adds (fun _ => ⟨fun _ => rfl, fun _ => Nat.zero_le 1⟩)
      fun _ x => ((onCycle_atTick s x _).mono (Bool.toNat_le _)).rowGain
  case busIoWait =>
    exact countQualified_adds (fun _ => ⟨fun _ => rfl, fun _ => Nat.zero_le 1⟩)
      fun _ x => ((onCoreCycle_atTick s x _).mono (Bool.toNat_le _)).rowGain
  case busDrdyClocks | busLockClocks | busDataRcv | busHitDrv | busHitmDrv =>
    exact countQualified_adds (fun _ => ⟨fun _ => rfl, fun _ => Nat.zero_le 1⟩)
      fun _ _ => ((onBusCycle_atTick s _).mono (Bool.toNat_le _)).rowGain

/-- The events of Table A-2 are the three of the fixed-function counters (rule R117). -/
theorem eq_of_format_fixedCounter {i : Instr} (h : i.format = .fixedCounter) :
    i = .fixedInstrRetiredAny ∨ i = .fixedCpuClkUnhaltedCore ∨ i = .fixedCpuClkUnhaltedRef := by
  cases i
  case fixedInstrRetiredAny => exact .inl rfl
  case fixedCpuClkUnhaltedCore => exact .inr (.inl rfl)
  case fixedCpuClkUnhaltedRef => exact .inr (.inr rfl)
  all_goals cases h

/-- An event of Table A-2 adds what its row may gain to the fixed-function counter it is wired to, and to no other. -/
theorem exec_fixed (i : Instr) (s : State) (hf : i.format = .fixedCounter) :
    ∃ f w, decodeMsr f.address = some i ∧ exec i s = countFixed s f w ∧ ∀ x, RowGain i s x (w x) := by
  obtain rfl | rfl | rfl := eq_of_format_fixedCounter hf
  · exact ⟨.ctr0, _, rfl, rfl, fun x => (onFound_offTicks s x _).rowGain nofun⟩
  · exact ⟨.ctr1, _, rfl, rfl, fun x => ((onCoreCycle_atTick s x _).mono (Bool.toNat_le _)).rowGain⟩
  · exact ⟨.ctr2, _, rfl, rfl, fun _ => ((onRefCycle_atTick s _).mono (Bool.toNat_le _)).rowGain⟩

/-- The core a counter belongs to (rule R42). -/
def CounterId.core (c : CounterId) : CoreId :=
  match c with
  | .gp x _ => x
  | .fixed x _ => x

/-- Whatever the instruction, nothing changes, or the counter being served gains what the row may gain. -/
theorem exec_rowGain (i : Instr) (s : State) : exec i s = .next s ∨
    ∃ c rest n, s.turn = c :: rest ∧ exec i s = .next (s.addTo c n) ∧ RowGain i s c.core n := by
  by_cases hf : i.format = .fixedCounter
  · obtain ⟨f, w, -, e, hw⟩ := exec_fixed i s hf
    rw [e]
    unfold countFixed
    split
    · next x g rest ht =>
      split
      · exact .inr ⟨_, rest, _, ht, rfl, hw x⟩
      · exact .inl rfl
    · exact .inl rfl
  · obtain ⟨w, e, hw⟩ := exec_addsOnGp i s hf
    rw [e]
    unfold countGp
    split
    · next x k rest ht => exact .inr ⟨_, rest, _, ht, rfl, hw x⟩
    · exact .inl rfl

/-- A row that gains nothing in this moment leaves the state as it is. -/
theorem exec_eq_next_of_gains_nothing {i : Instr} {s : State}
    (h : ∀ c n, s.turn.head? = some c → RowGain i s c.core n → n = 0) : exec i s = .next s := by
  obtain e | ⟨c, rest, n, ht, e, hn⟩ := exec_rowGain i s
  · exact e
  · rw [e, h c n (by rw [ht, List.head?_cons]) hn, addTo_zero]

/-- The served counter gains no more than every amount the row may gain. -/
theorem gain_le {i : Instr} {s : State} {b : Nat} (h : ∀ x n, RowGain i s x n → n ≤ b) : gain i s ≤ b := by
  obtain e | ⟨c, rest, n, ht, e, hn⟩ := exec_rowGain i s
  · unfold gain
    rw [e]
    cases s.turn <;> simp
  · have hb := (addTo_nominal_bounds s c c n).2
    have hn := h c.core n hn
    simp only [gain, e, ht]
    omega

theorem RowGain.of_some {i : Instr} {s : State} {x : CoreId} {n : Nat} {t : Tick} (h : RowGain i s x n)
    (ht : countingTick i s x = some t) : (s.now ≠ .tick t → n = 0) ∧ (i.unit ≠ .accumulation → n ≤ 1) := by
  rwa [RowGain, ht] at h

theorem RowGain.of_none {i : Instr} {s : State} {x : CoreId} {n : Nat} (h : RowGain i s x n)
    (ht : countingTick i s x = none) : (i ≠ .rsUopsDispatched → OffTicks s n) ∧ (i = .rsUopsDispatched → AtTick s (unnamedTick s x) 6 n) := by
  rwa [RowGain, ht] at h

/-- Only a row that counts occurrences has no cycle at which it counts (rules R12 and R104). -/
theorem countingTick_eq_none {i : Instr} {s : State} {x : CoreId} :
    countingTick i s x = none ↔ i.unit = .occurrences := by
  unfold countingTick
  cases i.unit <;> simp

/-- Settles O33: the meaning of a row of Tables A-1 and A-3 counts on general-purpose counters alone, that of a row of
Table A-2 on the counter it is wired to. -/
theorem eventsCountOnTheirKindOfCounter : Obligations.EventsCountOnTheirKindOfCounter := by
  intro i s x rest
  refine ⟨fun f ht hf => ?_, fun k ht hf => ?_, fun f ht hf hd => ?_⟩
  · obtain ⟨w, e, -⟩ := exec_addsOnGp i s hf
    rw [e, countGp, ht]
  · obtain ⟨g, w, -, e, -⟩ := exec_fixed i s hf
    rw [e, countFixed, ht]
  · obtain ⟨g, w, hg, e, -⟩ := exec_fixed i s hf
    have hfg : f ≠ g := fun h => hd (h ▸ hg)
    simp only [e, countFixed, ht, if_neg hfg]

/-- Settles O40: off the cycles of its clock a row gains nothing, and a row of occurrences gains nothing in a cycle. -/
theorem rowsCountAtTheirClock : Obligations.RowsCountAtTheirClock := by
  refine ⟨fun i s c rest t ht hc hn => ?_, fun i s t hu hi hn => ?_, fun s x k rest ht hn => ?_⟩
  · have hcore : countingTick i s c.core = some t := by cases c <;> exact hc
    refine exec_eq_next_of_gains_nothing fun d n hd hg => ?_
    rw [ht, List.head?_cons, Option.some.injEq] at hd
    exact (hg.of_some (hd ▸ hcore)).1 hn
  · exact exec_eq_next_of_gains_nothing fun c n _ hg => (hg.of_none (countingTick_eq_none.2 hu)).1 hi t hn
  · refine exec_eq_next_of_gains_nothing fun d n hd hg => ?_
    rw [ht, List.head?_cons, Option.some.injEq] at hd
    subst hd
    exact ((hg.of_none (countingTick_eq_none.2 rfl)).2 rfl).1 hn

/-- Settles O41: in a cycle of its clock a condition adds a truth value, and a dispatch one for each port. -/
theorem cycleRowsGainAtMostOne : Obligations.CycleRowsGainAtMostOne := by
  refine fun i s => ⟨fun ho ha => gain_le fun x n hg => ?_, fun hi => gain_le fun x n hg => ?_⟩
  · obtain ⟨t, ht⟩ := Option.ne_none_iff_exists'.1 (mt countingTick_eq_none.1 ho : countingTick i s x ≠ none)
    exact (hg.of_some ht).2 ha
  · exact ((hg.of_none (countingTick_eq_none.2 (hi ▸ rfl))).2 hi).2

end Sys2Proof.Machine
end

section
/-! Event codes (O18), the qualifier settings (O45) and the conditions that several rows share (O59). -/

namespace Sys2Proof.Machine

/-! ## Event codes (rules R11 and R103) -/

/-- An event code is the pair in one number: the unit mask in the more significant byte. -/
theorem eventCode_toNat (e u : Byte) : (eventCode e u).toNat = 256 * u.toNat + e.toNat := by
  rw [eventCode, BitVec.toNat_append, ← Nat.shiftLeft_add_eq_or_of_lt e.isLt, Nat.shiftLeft_eq]
  omega

@[simp] theorem eventNum_eventCode (e u : Byte) : (eventCode e u).eventNum = e := by
  apply BitVec.eq_of_toNat_eq
  have he := e.isLt
  rw [EventCode.eventNum, BitVec.extractLsb'_toNat, eventCode_toNat, Nat.shiftRight_zero]
  omega

@[simp] theorem umask_eventCode (e u : Byte) : (eventCode e u).umask = u := by
  apply BitVec.eq_of_toNat_eq
  have he := e.isLt
  have hu := u.isLt
  rw [EventCode.umask, BitVec.extractLsb'_toNat, eventCode_toNat, Nat.shiftRight_eq_div_pow]
  omega

/-- Settles O18: the two fields of a code, then the pairs that are written out, by running the decoder on each. -/
theorem pairsDecodeAsTheMapSays : Obligations.PairsDecodeAsTheMapSays :=
  ⟨fun e u => ⟨eventNum_eventCode e u, umask_eventCode e u, eventCode_toNat e u⟩,
    rfl, rfl, rfl, rfl, rfl, rfl, rfl, rfl, rfl, rfl, rfl,
    fun _ => ⟨rfl, rfl, rfl⟩, rfl, rfl, rfl, rfl, rfl, rfl, rfl, rfl⟩

/-! ## Qualifier settings (rule R16) -/

theorem coreSel_iff (q : Settings) (x y : CoreId) : q.coreSel x y = true ↔ q.core = .bothCore ∨ y = x := by
  simp [Settings.coreSel]

@[simp] theorem agentSel_thisProcessor (q : Settings) : q.agentSel .thisProcessor = true := by
  simp [Settings.agentSel]

theorem agentSel_another (q : Settings) (n : Nat) : q.agentSel (.another n) = true ↔ q.agent = .allAgents := by
  simp [Settings.agentSel]

/-- What a setting selects of a bus occurrence: BOTH_CORE leaves it to the agent. -/
theorem busSel_bothCore (s : State) (q : Settings) (x : CoreId) (a : Agent) (c : Option CoreId)
    (h : q.core = .bothCore) : s.busSel q x a c = q.agentSel a := by
  cases a <;> simp [State.busSel, h]

/-- SELF selects of what this processor does that for the counting core. -/
theorem busSel_self (s : State) (q : Settings) (x : CoreId) (c : Option CoreId) (h : q.core = .self) :
    s.busSel q x .thisProcessor c = true ↔ c = some x := by
  simp [State.busSel, h]

/-- THIS_AGENT selects nothing of another agent. -/
theorem busSel_another (s : State) (q : Settings) (x : CoreId) (n : Nat) (c : Option CoreId)
    (h : q.agent = .thisAgent) : s.busSel q x (.another n) c = false := by
  have ha : q.agentSel (.another n) = false := by simp [Settings.agentSel, h]
  simp [State.busSel, ha]

/-- Settles O45: one setting after the other, then the core and the agent setting together. -/
theorem qualifierSettingsSelect : Obligations.QualifierSettingsSelect := by
  intro q x y st hw n
  refine ⟨⟨fun h => ?_, fun h => (coreSel_iff q x y).2 (.inl h), fun h => ⟨agentSel_thisProcessor q, ?_⟩,
      fun h => ⟨agentSel_thisProcessor q, (agentSel_another q n).2 h⟩, fun h => ?_, fun h => ?_, fun h => ?_⟩,
    ⟨fun h => ?_, fun h => ?_, rfl, rfl, rfl, rfl⟩, ⟨fun r => by simp [Settings.snoopRespSel],
      fun k => by simp [Settings.snoopTypeSel]⟩,
    fun s a c => ⟨fun h => ⟨?_, ?_⟩, fun h => by rw [busSel_bothCore s q x a c h], busSel_another s q x n c⟩⟩
  · rw [coreSel_iff, h]; simp
  · rw [← Bool.not_eq_true, agentSel_another, h]; simp
  · simp [Settings.pfSel, h]
  · simp [Settings.pfSel, h]
  · simp [Settings.pfSel, h]
  · cases st <;> simp [Settings.mesiSel, h, MesiSetting.iState]
  · cases st <;> simp [Settings.mesiSel, h, MesiSetting.all]
  · rw [busSel_self s q x _ h, Option.some.injEq]
  · rw [← Bool.not_eq_true, busSel_self s q x _ h]; simp

/-! ## Conditions that several rows share -/

/-- A load that spans two cache lines has its first and its last byte in different lines (rule R66). -/
theorem split_iff (a : Access) (p : Params) :
    a.split p = true ↔ a.addr / p.lineBytes ≠ (a.addr + a.size - 1) / p.lineBytes :=
  decide_eq_true_iff

theorem triggerHolds_partialRead (s : State) (x : CoreId) (a : DataRef) :
    s.triggerHolds x (.partialRead a) = true ↔ a.write = false ∧ (a.memType = .uncacheable ∨ a.memType = .io) := by
  simp [State.triggerHolds]

theorem triggerHolds_tooManyMisses (s : State) (x : CoreId) :
    s.triggerHolds x .tooManyMisses = true ↔ s.params.maxL1dMisses < (s.core x).pipe.misses.length :=
  decide_eq_true_iff

/-- BOTH_CORE selects the cores there are (rule R16; log entry 31). -/
theorem selectedCores_bothCore (s : State) (q : Settings) (x : CoreId) (h : q.core = .bothCore) :
    s.selectedCores q x = if s.params.nCores = 1 then [.c0] else [.c0, .c1] := by
  rw [State.selectedCores, if_pos h, State.cores]

theorem selectedCores_self (s : State) (q : Settings) (x : CoreId) (h : q.core = .self) :
    s.selectedCores q x = [x] := by
  rw [State.selectedCores, h]; rfl

/-- At least one core is selected. -/
theorem selectedCores_ne_nil (s : State) (q : Settings) (x : CoreId) : s.selectedCores q x ≠ [] := by
  cases h : q.core
  · rw [selectedCores_self s q x h]; simp
  · rw [selectedCores_bothCore s q x h]; split <;> simp

theorem generatedElsewhere_iff (s : State) (user source : ExecUnit) (h : source ≠ .load) :
    s.generatedElsewhere user source = true ↔ user ≠ source := by
  simp [State.generatedElsewhere, h]

/-- The line state of a reference, where its lines agree on whether they are selected. -/
theorem mesiOf_eq (s : State) (q : Settings) (st st' : LineState) (h : q.mesiSel st = q.mesiSel st') :
    s.mesiOf q st st' = q.mesiSel st := if_pos h

theorem counted_iff (r : PendingRead) : r.counted = true ↔ r.fullLine = true ∧ r.cacheable = true ∧
    r.readForOwnership = false ∧ (r.reader = .l1d ∨ r.reader = .l2Prefetcher) := by
  simp [PendingRead.counted, and_assoc]

theorem haltedAlone_iff (s : State) (y : CoreId) : s.haltedAlone y = true ↔
    s.hasCore y.other = true ∧ (s.core y).halted = true ∧ (s.core y.other).halted = false := by
  simp [State.haltedAlone, and_assoc]

theorem l2Idle_iff (s : State) (y : CoreId) :
    s.l2Idle y = true ↔ (s.core y).pipe.l2Pending = 0 ∨ s.haltedAlone y = true := by
  simp [State.l2Idle]

theorem busQueueIdle_iff (s : State) (y : CoreId) :
    s.busQueueIdle y = true ↔ (s.core y).busQueue = [] ∨ s.haltedAlone y = true := by
  simp [State.busQueueIdle]

/-- BUSQ_EMPTY counts where every selected core has an empty queue (rule R288). -/
theorem busQueueEmpty_of_all (s : State) (q : Settings) (x : CoreId)
    (h : ∀ y ∈ s.selectedCores q x, s.busQueueIdle y = true) : s.busQueueEmpty q x = true :=
  if_pos (List.all_eq_true.2 h)

/-- BUSQ_EMPTY does not count where no selected core has an empty queue (rule R288). -/
theorem busQueueEmpty_of_none (s : State) (q : Settings) (x : CoreId)
    (h : ∀ y ∈ s.selectedCores q x, ¬s.busQueueIdle y = true) : s.busQueueEmpty q x = false := by
  have hany : (s.selectedCores q x).any s.busQueueIdle = false := List.any_eq_false.2 h
  have hall : (s.selectedCores q x).all s.busQueueIdle = false := by
    obtain ⟨y, hy⟩ := List.exists_mem_of_ne_nil _ (selectedCores_ne_nil s q x)
    exact List.all_eq_false.2 ⟨y, hy, h y hy⟩
  simp [State.busQueueEmpty, hany, hall]

/-- The micro-ops dispatched are the busy ports (rule R554). -/
theorem dispatched_eq_length (p : Pipe) :
    p.dispatched = ([p.port0, p.port1, p.port2, p.port3, p.port4, p.port5].filter id).length := by
  have h : ∀ b l, ((b :: l).filter id).length = b.toNat + (l.filter id).length := by
    intro b l
    cases b
    · exact (Nat.zero_add _).symm
    · exact Nat.add_comm _ _
  simp only [h, Pipe.dispatched, List.filter_nil, List.length_nil]
  omega

/-- Settles O59: the conditions one after the other, each by the lemma that says what it selects. -/
theorem sharedConditionsSelect : Obligations.SharedConditionsSelect := by
  intro s q x
  refine ⟨⟨triggerHolds_tooManyMisses s x, fun l => split_iff l s.params, triggerHolds_partialRead s x, Iff.rfl, rfl⟩,
    ⟨selectedCores_self s q x, fun h h1 => ?_, fun h h1 => ?_⟩,
    ⟨rfl, rfl, rfl, rfl, rfl, ?_, rfl, generatedElsewhere_iff s, ?_⟩,
    ⟨fun st => mesiOf_eq s q st st rfl, fun st st' h h' => ?_, fun st st' h h' => ?_⟩,
    ⟨?_, ?_, rfl, rfl, counted_iff⟩, ⟨fun y => ?_, fun h => ?_, fun h => ?_⟩,
    ⟨?_, fun _ => rfl, ?_⟩, fun b => ⟨fun h => ?_, fun h => ?_⟩, dispatched_eq_length⟩
  · rw [selectedCores_bothCore s q x h, if_pos h1]
  · rw [selectedCores_bothCore s q x h, if_neg h1]
  · simp [State.isL2Store]
  · simp [State.isL2Rqst]
  · rw [mesiOf_eq s q st st' (h.trans h'.symm), h]
  · rw [mesiOf_eq s q st st' (h.trans h'.symm), h]
  · simp [State.countsMiss]
  · simp [State.countsMiss]
  · rw [l2Idle_iff, haltedAlone_iff]
  · exact busQueueEmpty_of_all s q x fun y hy => (busQueueIdle_iff s y).2 ((h y hy).imp_right (haltedAlone_iff s y).2)
  · exact busQueueEmpty_of_none s q x fun y hy hi => h y hy (((busQueueIdle_iff s y).1 hi).imp_right (haltedAlone_iff s y).1)
  · simp [State.isBurst]
  · simp [State.isBurst]
  · simp [State.isIndirect, h]
  · obtain h | h := h <;> simp [State.isIndirect, h]

end Sys2Proof.Machine
end

section
/-! The halt state, the clocks, the time stamp counter and the reference cycles (O46). -/

namespace Sys2Proof.Machine

/-! ## Which inputs are accepted, and what they do -/

/-- The inputs that are operations of software on counters (rules R27 and R84). -/
def Input.onCounters (i : Input) : Bool :=
  match i with
  | .select _ _ _ _ | .read _ | .readMsr _ _ | .writeMsr _ _ _ => true
  | _ => false

/-- Any other input is accepted where the core it is about exists, and advances the history. -/
theorem accept_advance {s : State} {i : Input} (hc : i.core?.all s.hasCore = true) (hi : i.onCounters = false) :
    s.accept i = .next (s.advance i) := by
  unfold State.accept
  rw [if_pos hc]
  split
  · cases hi
  · cases hi
  · cases hi
  · cases hi
  · rfl

theorem accept_about {s : State} {i : Input} {x : CoreId} (hx : s.hasCore x = true) (hc : i.core? = some x)
    (hi : i.onCounters = false) : s.accept i = .next (s.advance i) := accept_advance (by rw [hc]; exact hx) hi

/-- An input about no core is always accepted. -/
theorem accept_package {s : State} {i : Input} (hc : i.core? = none) (hi : i.onCounters = false) :
    s.accept i = .next (s.advance i) := accept_advance (by rw [hc]; rfl) hi

/-! ## Working off stalls makes no difference to who is counting -/

theorem listening_workOff (s : State) (t : Tick) : (s.workOff t).listening = s.listening := by
  have hl : ∀ y, ((s.workOff t).core y).listening y = (s.core y).listening y := fun y => by
    rw [workOff_core]
    split <;> rfl
  simp only [State.listening, hl]
  rfl

/-! ## What leaves the time stamp counter and the credit of reference cycles as they are -/

/-- The time stamp counter and the reference cycles that bus cycles have earned (rules R32 and R564). -/
def State.clock (s : State) : Nat × Nat := (s.tsc, s.refCredit)

@[simp] theorem clock_setCore (s : State) (x : CoreId) (c : Core) : (s.setCore x c).clock = s.clock := by
  cases x <;> rfl

@[simp] theorem clock_modCore (s : State) (x : CoreId) (f : Core → Core) : (s.modCore x f).clock = s.clock :=
  clock_setCore ..

@[simp] theorem clock_begin (s : State) (m : Moment) : (s.begin m).clock = s.clock := rfl

@[simp] theorem clock_followedBy (s : State) (l : List Input) : (s.followedBy l).clock = s.clock := rfl

@[simp] theorem clock_setTemperature (s : State) (n : Nat) : (s.setTemperature n).clock = s.clock := by
  unfold State.setTemperature; split <;> rfl

@[simp] theorem clock_thermalCheck (s : State) : s.thermalCheck.clock = s.clock := by
  unfold State.thermalCheck; split <;> rfl

@[simp] theorem clock_makeTransition (s : State) (x : CoreId) (t : Transition) :
    (s.makeTransition x t).clock = s.clock := by simp [State.makeTransition]

@[simp] theorem clock_restart (s : State) (x : CoreId) (k : Nuke) (n : InFlight) (f : Nat) (l : List DataRef) :
    (s.restart x k n f l).clock = s.clock := by simp [State.restart]

@[simp] theorem clock_blockLoad (s : State) (x : CoreId) (b : LoadBlock) : (s.blockLoad x b).clock = s.clock := by
  simp [State.blockLoad]

@[simp] theorem clock_occur (s : State) (x : CoreId) (o : Occ) : (s.occur x o).clock = s.clock := by
  unfold State.occur; split <;> simp

@[simp] theorem clock_makeRef (s : State) (x : CoreId) (a : DataRef) : (s.makeRef x a).clock = s.clock := by
  obtain ⟨-, e⟩ | ⟨-, -, e⟩ | ⟨-, -, e⟩ := makeRef_cases s x a <;> simp [e, State.performRef]

@[simp] theorem clock_makeRetiredRef (s : State) (x : CoreId) (a : DataRef) :
    (s.makeRetiredRef x a).clock = s.clock := by
  obtain ⟨-, e⟩ | ⟨-, e⟩ := makeRetiredRef_cases s x a <;> simp [e, State.performRef]

@[simp] theorem clock_startLocks (s : State) (x : CoreId) (l : List DataRef) :
    (s.startLocks x l).clock = s.clock := by cases x <;> rfl

@[simp] theorem clock_retire (s : State) (x : CoreId) (u : RetiredUop) : (s.retire x u).clock = s.clock := by
  unfold State.retire; split <;> simp

@[simp] theorem clock_endLock (s : State) (x : CoreId) (a : DataRef) : (s.endLock x a).clock = s.clock := by
  unfold State.endLock
  split
  · rfl
  · simp

@[simp] theorem clock_startPageWalk (s : State) (x : CoreId) (b : Bool) : (s.startPageWalk x b).clock = s.clock := by
  cases x <;> rfl

@[simp] theorem clock_endPageWalk (s : State) (x : CoreId) (b : Bool) : (s.endPageWalk x b).clock = s.clock := by
  cases x <;> rfl

@[simp] theorem clock_updateSegment (s : State) (x : CoreId) (r : SegReg) :
    (s.updateSegment x r).clock = s.clock := by unfold State.updateSegment; split <;> simp

@[simp] theorem clock_useEsp (s : State) (x : CoreId) : (s.useEsp x).clock = s.clock := by
  unfold State.useEsp; split <;> simp

@[simp] theorem clock_lookupDtlb (s : State) (x : CoreId) (k : AccessKind) (p : Nat) :
    (s.lookupDtlb x k p).clock = s.clock := rfl

@[simp] theorem clock_flushItlb (s : State) (x : CoreId) : (s.flushItlb x).clock = s.clock := by
  simp [State.flushItlb]

@[simp] theorem clock_writeControl (s : State) (x : CoreId) (b : Bool) (v : Nat) (f : Bool) :
    (s.writeControl x b v f).clock = s.clock := by cases f <;> simp [State.writeControl]

@[simp] theorem clock_decodeLength (s : State) (x : CoreId) (d : LengthDecode) :
    (s.decodeLength x d).clock = s.clock := by unfold State.decodeLength; split <;> simp

@[simp] theorem clock_sendLoad (s : State) (x : CoreId) (b : Access) : (s.sendLoad x b).clock = s.clock := by
  obtain ⟨-, e⟩ | ⟨-, e⟩ := sendLoad_cases s x b <;> simp [e]

@[simp] theorem clock_fetchInst (s : State) (x : CoreId) (f : Fetch) : (s.fetchInst x f).clock = s.clock := by
  obtain ⟨-, e⟩ | ⟨-, e⟩ := fetchInst_cases s x f <;> simp [e]

@[simp] theorem clock_snoopCore (s : State) (x : CoreId) (n : Nat) (k : SnoopKind) (a : Option LineState) :
    (s.snoopCore x n k a).clock = s.clock := by simp [State.snoopCore]

@[simp] theorem clock_evictL1d (s : State) (x : CoreId) (n : Nat) : (s.evictL1d x n).clock = s.clock := by
  simp [State.evictL1d]

@[simp] theorem clock_setL1dState (s : State) (x : CoreId) (n : Nat) (st : LineState) :
    (s.setL1dState x n st).clock = s.clock := by
  obtain ⟨-, -, e⟩ | ⟨-, e⟩ := setL1dState_cases s x n st <;> simp [e]

@[simp] theorem clock_endPrefetch (s : State) (x : CoreId) (k : SsePrefetch) (a : Nat) (st : LineState) :
    (s.endPrefetch x k a st).clock = s.clock := by
  simp only [State.endPrefetch]; split <;> simp

@[simp] theorem clock_prefetchByDpl (s : State) (x : CoreId) (d : Direction) (n : Nat) (st : LineState) :
    (s.prefetchByDpl x d n st).clock = s.clock := rfl

@[simp] theorem clock_requestBus (s : State) (x : CoreId) (r : L2Req) (n : Nat) :
    (s.requestBus x r n).clock = s.clock := by unfold State.requestBus; split <;> simp

@[simp] theorem clock_submit (s : State) (t : BusTrans) : (s.submit t).clock = s.clock := by
  unfold State.submit; split <;> rfl

@[simp] theorem clock_receiveInterrupt (s : State) (x : CoreId) : (s.receiveInterrupt x).clock = s.clock := by
  simp [State.receiveInterrupt]

/-- No input but a cycle of a clock moves the time stamp counter or the credit of reference cycles. -/
theorem clock_advance (s : State) (i : Input) (h : ∀ t, i ≠ .tick t) : (s.advance i).clock = s.clock := by
  cases i
  case tick t => exact absurd rfl (h t)
  case setBus | l2LineIn | l2LineOut | l2LineState | writeBackToL2 | bnr | snoopStall => rfl
  case takeInterrupt x => simp only [State.advance]; split <;> simp
  all_goals simp [State.advance, State.startFixedCounters]

@[simp] theorem clock_selectEvent (s : State) (x : CoreId) (k : Nat) (e u : Byte) :
    (s.selectEvent x k e u).clock = s.clock := clock_setCore ..

theorem clock_readCounter (s : State) (c : CounterId) : (s.readCounter c).clock = s.clock := by
  unfold State.readCounter
  split
  · split
    · rfl
    · split <;> rfl
  · split <;> rfl

/-! ## What the cycles do to them -/

theorem clock_tick_core (s : State) (x : CoreId) : (s.tickClock (.core x)).clock = s.clock := rfl

/-- A reference cycle that has not been earned is no moment. -/
theorem tickClock_ref_unearned {s : State} (h : s.refCredit < s.params.busCycles) : s.tickClock .ref = s :=
  if_pos h

theorem tickClock_ref_earned {s : State} (h : s.params.busCycles ≤ s.refCredit) : s.tickClock .ref =
    { s.workOff .ref with tsc := s.tsc + 1, refCredit := s.refCredit - s.params.busCycles }.begin (.tick .ref) :=
  if_neg (Nat.not_lt.mpr h)

/-- The reference cycles counted so far and those that are earned, in units of `1 / busCycles`: what only a bus cycle
adds to (rules R32 and R564). -/
def State.refTotal (s : State) : Nat := s.tsc * s.params.busCycles + s.refCredit

/-- A reference cycle that is earned moves from the credit to the time stamp counter. -/
theorem refTotal_tick_ref (s : State) :
    (s.tickClock .ref).tsc * s.params.busCycles + (s.tickClock .ref).refCredit = s.refTotal := by
  obtain h | h := Nat.lt_or_ge s.refCredit s.params.busCycles
  · rw [tickClock_ref_unearned h]
    rfl
  · rw [tickClock_ref_earned h]
    change (s.tsc + 1) * s.params.busCycles + (s.refCredit - s.params.busCycles) = s.refTotal
    rw [State.refTotal, Nat.add_mul]
    omega

/-- What an accepted input leaves of the time stamp counter and the credit, unless it is a bus or a reference cycle. -/
theorem clock_of_accept {s t : State} {i : Input} (h : s.accept i = .next t) (hb : i ≠ .tick .bus)
    (hr : i ≠ .tick .ref) : t.clock = s.clock := by
  obtain rfl | ⟨x, k, e, u, -, -, rfl⟩ | ⟨c, -, -, rfl⟩ := accept_next h
  · cases i
    case tick k =>
      cases k
      case core x => exact clock_tick_core s x
      case bus => exact absurd rfl hb
      case ref => exact absurd rfl hr
    all_goals exact clock_advance s _ (by simp)
  · exact clock_selectEvent ..
  · exact clock_readCounter ..

/-- Rules R32 and R564: the whole of the reference cycles grows with bus cycles only, and the time stamp counter with
reference cycles only. -/
theorem refTotal_of_accept {s t : State} {i : Input} (h : s.accept i = .next t) :
    t.tsc * s.params.busCycles + t.refCredit =
      s.refTotal + (if i = .tick .bus then s.params.refCycles else 0) ∧ (i ≠ .tick .ref → t.tsc = s.tsc) := by
  by_cases hb : i = .tick .bus
  · subst hb
    obtain rfl := Host.Outcome.next.inj ((accept_package rfl rfl).symm.trans h)
    refine ⟨?_, fun _ => rfl⟩
    rw [if_pos rfl, State.refTotal, Nat.add_assoc]
    rfl
  · rw [if_neg hb, Nat.add_zero]
    by_cases hr : i = .tick .ref
    · subst hr
      obtain rfl := Host.Outcome.next.inj ((accept_package rfl rfl).symm.trans h)
      exact ⟨refTotal_tick_ref s, fun hn => absurd rfl hn⟩
    · obtain ⟨htsc, hcredit⟩ := Prod.mk.injEq .. ▸ clock_of_accept h hb hr
      rw [htsc, hcredit]
      exact ⟨rfl, fun _ => rfl⟩

/-- Rule R28, log entry 38: the halt state is the core's alone; rules R14 and R503: its cycle is served to all that
count. -/
theorem accept_halt_wake_tick {s : State} {x : CoreId} (m : Bool) (hx : s.hasCore x = true) :
    s.accept (.halt x m) = .next (s.setCore x { s.core x with halted := true }) ∧
    s.accept (.wake x) = .next (s.setCore x { s.core x with halted := false }) ∧
    ∃ t, s.accept (.tick (.core x)) = .next t ∧ t.now = .tick (.core x) ∧ t.turn = s.listening :=
  ⟨accept_about hx rfl rfl, accept_about hx rfl rfl, _, accept_about hx rfl rfl, rfl, listening_workOff s _⟩

/-- Settles O46: the clocks are moved by the cycles alone, each by its own. -/
theorem clocksAndHaltState : Obligations.ClocksAndHaltState := by
  refine ⟨fun s x m hx => accept_halt_wake_tick m hx, fun s => ?_, fun s t i h => refTotal_of_accept h⟩
  refine ⟨s.tickClock .bus, s.tickClock .ref, accept_package rfl rfl, accept_package rfl rfl, rfl, ?_, ?_, ?_⟩
  · exact ⟨_, List.append_assoc ..⟩
  · intro h
    rw [tickClock_ref_earned h]
    exact ⟨rfl, rfl⟩
  · exact tickClock_ref_unearned

end Sys2Proof.Machine
end

section
/-! The pipeline of a core: entry, stores, drains, fences, loads, retirement, restarts (O60). -/

namespace Sys2Proof.Machine

/-! ## Entry -/

theorem Core.canEnter_iff {c : Core} {p : Params} {load store : Bool} : c.canEnter p load store = true ↔
    c.inFlight.retirement < p.robLimit ∧ c.inFlight.execution < p.rsLimit ∧
      (load = true → c.inFlight.loads < p.loadLimit) ∧ (store = true → c.inFlight.stores < p.storeLimit) ∧
      c.pipe.branchMissClear = false ∧ c.pipe.robReadPortStall = false ∧ c.draining = none := by
  simp only [Core.canEnter, Core.executionHeld, Bool.and_eq_true, Bool.or_eq_true, Bool.not_eq_true',
    decide_eq_true_eq, Option.isSome_eq_false_iff, Option.isNone_iff_eq_none]
  cases load <;> cases store <;> simp <;> tauto

theorem Core.enter_of_canEnter {c : Core} {p : Params} {load store : Bool} (h : c.canEnter p load store = true) :
    (c.enter p load store).inFlight = ⟨c.inFlight.retirement + 1, c.inFlight.execution + 1,
      c.inFlight.loads + load.toNat, c.inFlight.stores + store.toNat⟩ := by rw [Core.enter, if_pos h]

theorem Core.enter_of_not_canEnter {c : Core} {p : Params} {load store : Bool} (h : ¬c.canEnter p load store = true) :
    c.enter p load store = c := if_neg h

/-! ## Stores, fences, execution and drains -/

theorem Core.storeWaits_eq_self {c : Core} (h : c.draining ≠ none ∨ c.retiredStores = []) : c.storeWaits = c := by
  obtain ⟨-, e⟩ | ⟨st, rest, hd, hr, -⟩ := c.storeWaits_cases
  · exact e
  · simp [hd, hr] at h

theorem Core.storeWaits_cons {c : Core} {st : Access} {rest : List Access} (hd : c.draining = none)
    (hr : c.retiredStores = st :: rest) :
    c.storeWaits = { c with storeBuffer := c.storeBuffer ++ [st], retiredStores := rest } := by
  simp [Core.storeWaits, hd, hr]

theorem Core.fence_eq_self {c : Core} (h : c.inFlight.stores = 0 ∨ c.inFlight.execution ≤ c.fences.length) :
    c.fence = c := if_pos (by simpa using h)

theorem Core.fence_of_stores {c : Core} (hs : 0 < c.inFlight.stores) (he : c.fences.length < c.inFlight.execution) :
    c.fence = { c with fences := c.inFlight.stores :: c.fences } := if_neg (by simp; omega)

theorem Core.executed_eq_self {c : Core} (h : c.draining ≠ none ∨ c.inFlight.execution ≤ c.fences.length) :
    c.executed = c := by
  refine if_pos (Bool.not_eq_false _ ▸ fun hf => ?_)
  obtain ⟨hd, he⟩ := Core.holdsExecution_eq_false.mp hf
  exact h.elim (absurd hd) (Nat.not_le.mpr he)

theorem Core.executed_of_free {c : Core} (hd : c.draining = none) (he : c.fences.length < c.inFlight.execution) :
    c.executed = { c with inFlight := { c.inFlight with execution := c.inFlight.execution - 1 } } :=
  if_neg (Bool.not_eq_true _ ▸ Core.holdsExecution_eq_false.mpr ⟨hd, he⟩)

theorem Core.drain_eq_self {c : Core} {cause : DrainCause} (h : c.storeBuffer = []) : c.drain cause = c :=
  if_pos (List.isEmpty_iff.mpr h)

theorem Core.drain_of_stores {c : Core} {cause : DrainCause} (h : c.storeBuffer ≠ []) :
    c.drain cause = { c with draining := some cause } := if_neg (mt List.isEmpty_iff.mp h)

theorem Core.storeCommits_nil {c : Core} (h : c.storeBuffer = []) : c.storeCommits = c := by
  simp [Core.storeCommits, h]

theorem Core.storeCommits_cons {c : Core} {st : Access} {rest : List Access} (h : c.storeBuffer = st :: rest) :
    c.storeCommits = { c with
      storeBuffer := rest, inFlight := { c.inFlight with stores := c.inFlight.stores - 1 }
      fences := (c.fences.map (· - 1)).filter (0 < ·), draining := if rest.isEmpty then none else c.draining
      blocked := { c.blocked with untilCommit := c.blocked.untilCommit.filter (·.2 ≠ st) } } := by
  simp [Core.storeCommits, h]

/-- Those whose last store commits wait no longer; the others wait for one store less. -/
theorem filter_pos_map_pred (l : List Nat) :
    (l.map (· - 1)).filter (0 < ·) = (l.filter (1 < ·)).map (· - 1) := by
  rw [List.filter_map]
  congr 2
  funext n
  simp only [Function.comp_apply, decide_eq_decide]
  omega

/-! ## Loads -/

theorem sendLoad_held {s : State} {x : CoreId} (b : Access) (h : (s.core x).draining ≠ none) :
    s.sendLoad x b = s := if_pos (by simpa [Core.executionHeld, Option.isSome_iff_ne_none] using h)

/-- A drain holds every load, a store that blocks it the load it blocks; nothing holds a store (rules R69 and R202). -/
theorem Core.holdsLoad_iff {c : Core} {a : DataRef} : c.holdsLoad a = true ↔
    a.write = false ∧ (c.draining ≠ none ∨ ∃ st, (a.bytes, st) ∈ c.blocked.untilCommit) := by
  simp [Core.holdsLoad, Core.waitsForCommit_iff, Core.executionHeld, Option.isSome_iff_ne_none, and_or_left]

theorem Core.not_holdsLoad {c : Core} {a : DataRef}
    (h : a.write = true ∨ (c.draining = none ∧ ¬∃ st, (a.bytes, st) ∈ c.blocked.untilCommit)) :
    ¬c.holdsLoad a = true := by
  rw [Core.holdsLoad_iff]
  rintro ⟨hw, hd | hc⟩
  · exact h.elim (by simp [hw]) fun h => hd h.1
  · exact h.elim (by simp [hw]) fun h => h.2 hc

/-- A split or an uncacheable load, and a load that is blocked until retirement (rules R66 and R563). -/
theorem Core.waitsForRetirement_iff {c : Core} {p : Params} {a : DataRef} : c.waitsForRetirement p a = true ↔
    a.write = false ∧
      (a.bytes.split p = true ∨ a.memType = .uncacheable ∨ a ∈ c.blocked.untilRetirement) := by
  simp [Core.waitsForRetirement, DataRef.executesAtRetirement, ← and_or_left, or_assoc]

theorem makeRef_held {s : State} {x : CoreId} {a : DataRef} (h : (s.core x).holdsLoad a = true) :
    s.makeRef x a = s := if_pos h

theorem makeRetiredRef_held {s : State} {x : CoreId} {a : DataRef} (h : (s.core x).holdsLoad a = true) :
    s.makeRetiredRef x a = s := if_pos h

theorem makeRetiredRef_free {s : State} {x : CoreId} {a : DataRef} (h : ¬(s.core x).holdsLoad a = true) :
    s.makeRetiredRef x a = s.performRef x a := if_neg h

theorem makeRef_blocked {s : State} {x : CoreId} {a : DataRef} (h : ¬(s.core x).holdsLoad a = true)
    (hr : (s.core x).waitsForRetirement s.params a = true) : s.makeRef x a = s.blockLoad x (.untilRetire a) :=
  (if_neg h).trans (if_pos hr)

theorem makeRef_free {s : State} {x : CoreId} {a : DataRef} (h : ¬(s.core x).holdsLoad a = true)
    (hr : ¬(s.core x).waitsForRetirement s.params a = true) : s.makeRef x a = s.performRef x a :=
  (if_neg h).trans (if_neg hr)

@[simp] theorem performRef_core (s : State) (x y : CoreId) (a : DataRef) :
    (s.performRef x a).core y = s.core y := begin_core ..

/-! ## Blocked loads -/

@[simp] theorem blockLoad_core_blocked (s : State) (x : CoreId) (b : LoadBlock) :
    ((s.blockLoad x b).core x).blocked = (s.core x).blocked.add b := by simp [State.blockLoad]

theorem blockLoad_turn (s : State) (x : CoreId) (b : LoadBlock) : (s.blockLoad x b).turn = s.listening :=
  listening_modCore s x _ rfl rfl

/-- A load that no stored wait is for changes nothing of its core. -/
theorem blockLoad_core_of_add {s : State} {x : CoreId} {b : LoadBlock}
    (h : (s.core x).blocked.add b = (s.core x).blocked) : (s.blockLoad x b).core x = s.core x := by
  simp [State.blockLoad, h]

theorem Blocked.mem_add_untilRetire {w : Blocked} {a c : DataRef} :
    c ∈ (w.add (.untilRetire a)).untilRetirement ↔ c = a ∨ c ∈ w.untilRetirement := List.mem_insert_iff

theorem Blocked.mem_add_overlap {w : Blocked} {l st : Access} (h : overlapBlocks l st = true) :
    (l, st) ∈ (w.add (.overlap l st)).untilCommit := by
  rw [Blocked.add, if_pos h]
  exact List.mem_insert_self

theorem Blocked.add_overlap_none {w : Blocked} {l st : Access} (h : overlapBlocks l st = false) :
    w.add (.overlap l st) = w := if_neg (Bool.not_eq_true _ ▸ h)

/-! ## Retirement -/

theorem retire_of_not_canRetire {s : State} {x : CoreId} {u : RetiredUop} (h : ¬(s.core x).canRetire u) :
    s.retire x u = s := retire_held (by rwa [← Core.holdsRetirement_eq_false, Bool.not_eq_false] at h)

theorem Core.mem_retired_untilRetirement {c : Core} {u : RetiredUop} {a : DataRef} :
    a ∈ (c.retired u).blocked.untilRetirement ↔
      a ∈ c.blocked.untilRetirement ∧ ∀ r ∈ u.completes, a ∉ r.atRetirement := by
  simp [Core.retired]

/-! ## What is thrown away -/

theorem Core.mem_abandoned_fences {c : Core} {n : InFlight} {k : Nat} {loads : List DataRef} {m : Nat} :
    m ∈ (c.abandoned n k loads).fences ↔ 0 < m ∧
      ∃ f ∈ c.fences.drop (max k (c.fences.length - (c.abandoned n k loads).inFlight.execution)),
        m = min f (c.abandoned n k loads).inFlight.stores := by
  simp only [Core.abandoned, List.mem_filter, List.mem_map, decide_eq_true_eq, and_comm (b := 0 < m),
    eq_comm (a := m), Nat.min_comm]

theorem Core.mem_abandoned_untilRetirement {c : Core} {n : InFlight} {k : Nat} {loads : List DataRef} {a : DataRef} :
    a ∈ (c.abandoned n k loads).blocked.untilRetirement ↔ a ∈ c.blocked.untilRetirement ∧ a ∉ loads := by
  simp [Core.abandoned]

theorem Core.mem_abandoned_untilCommit {c : Core} {n : InFlight} {k : Nat} {loads : List DataRef} {l st : Access} :
    (l, st) ∈ (c.abandoned n k loads).blocked.untilCommit ↔
      (l, st) ∈ c.blocked.untilCommit ∧ ∀ a ∈ loads, a.bytes ≠ l := by
  simp [Core.abandoned]

/-- Only self-modifying code throws away no load it restarts (rules R72, R75 and R217). -/
theorem Nuke.throws_eq (k : Nuke) (n : InFlight) : k.throws n = if k = .selfModifyingCode then n
    else { n with retirement := n.retirement + 1, loads := n.loads + 1 } := by cases k <;> rfl

/-! ## The clauses, by input -/

section
variable {s : State} {x : CoreId} (hx : s.hasCore x = true)
include hx

theorem accept_enterPipe (load store : Bool) :
    s.accept (.enterPipe x load store) = .next (s.modCore x (·.enter s.params load store)) := accept_about hx rfl rfl

theorem accept_storeCommit : s.accept (.storeCommit x) = .next (s.modCore x (·.storeCommits)) := accept_about hx rfl rfl

theorem accept_dataRef (a : DataRef) : s.accept (.dataRef x a) = .next (s.makeRef x a) := accept_about hx rfl rfl

theorem accept_retiredRef (a : DataRef) : s.accept (.retiredRef x a) = .next (s.makeRetiredRef x a) :=
  accept_about hx rfl rfl

theorem accept_abandon (n : InFlight) (k : Nat) (loads : List DataRef) :
    s.accept (.abandon x n k loads) = .next (s.modCore x (·.abandoned n k loads)) := accept_about hx rfl rfl

end

/-- Settles O60: input by input, from what each does to the pipeline of its core. -/
theorem pipelineStoresAndLoads : Obligations.PipelineStoresAndLoads := by
  intro s x hx
  refine ⟨fun load store => ?_, ?_, fun cause => ?_, fun he => ?_, fun st rest hb => ?_, fun a => ?_, fun b => ?_,
    fun u => ?_, fun n k loads => ?_⟩
  -- an instruction enters the pipe
  · refine ⟨_, accept_enterPipe hx load store, fun h => ?_, fun h => modCore_eq_self (Core.enter_of_not_canEnter ?_)⟩
    · rw [modCore_core]
      exact Core.enter_of_canEnter (Core.canEnter_iff.mpr h)
    · rw [Core.canEnter_iff]
      grind
  -- a retired store waits, a fence waits, an instruction is executed
  · refine ⟨s.modCore x (·.storeWaits), s.modCore x (·.fence), s.modCore x (·.executed), accept_about hx rfl rfl,
      accept_about hx rfl rfl, accept_about hx rfl rfl, ?_, ?_, ?_, ?_, ?_, ?_, ?_⟩
    · exact fun h => modCore_eq_self (Core.storeWaits_eq_self h)
    · exact fun st rest hd hr => congrArg (s.setCore x) (Core.storeWaits_cons hd hr)
    · exact fun h => modCore_eq_self (Core.fence_eq_self h)
    · exact fun hs he => congrArg (s.setCore x) (Core.fence_of_stores hs he)
    · refine fun h => ⟨modCore_eq_self (Core.executed_eq_self (.inl h)), fun b => ?_⟩
      exact (accept_about hx rfl rfl).trans (congrArg Host.Outcome.next (sendLoad_held b h))
    · exact fun h => modCore_eq_self (Core.executed_eq_self (.inr h))
    · exact fun hd he => congrArg (s.setCore x) (Core.executed_of_free hd he)
  -- a drain starts
  · exact ⟨s.modCore x (·.drain cause), accept_about hx rfl rfl, fun h => modCore_eq_self (Core.drain_eq_self h),
      fun h => congrArg (s.setCore x) (Core.drain_of_stores h)⟩
  -- no store commits
  · rw [accept_storeCommit hx, modCore_eq_self (Core.storeCommits_nil he)]
  -- a store commits
  · refine ⟨_, accept_storeCommit hx, ?_⟩
    rw [modCore_core, Core.storeCommits_cons hb]
    refine ⟨rfl, rfl, rfl, filter_pos_map_pred _, fun h => ?_, fun h => ?_, rfl, fun l c => ?_⟩
    · simp [h]
    · simp [h]
    · simp
  -- a reference is made, at execution and at retirement
  · refine ⟨_, _, accept_dataRef hx a, accept_retiredRef hx a, fun hw h => ?_, fun h => ?_, fun hw hd hc hr => ?_,
      fun h => ?_⟩
    · have hh := Core.holdsLoad_iff.mpr ⟨hw, h⟩
      exact ⟨makeRef_held hh, makeRetiredRef_held hh⟩
    · rw [makeRetiredRef_free (Core.not_holdsLoad h)]
      exact ⟨⟨_, _, rfl⟩, performRef_core ..⟩
    · rw [makeRef_blocked (Core.not_holdsLoad (.inr ⟨hd, hc⟩)) (Core.waitsForRetirement_iff.mpr ⟨hw, hr⟩),
        blockLoad_core_blocked]
      exact ⟨rfl, Blocked.mem_add_untilRetire.mpr (.inl rfl)⟩
    · have hh := Core.not_holdsLoad (h.imp_right fun ⟨hd, hc, _⟩ => ⟨hd, hc⟩)
      have hr : ¬(s.core x).waitsForRetirement s.params a = true := by rw [Core.waitsForRetirement_iff]; grind
      rw [makeRef_free hh hr, makeRetiredRef_free hh]
  -- a load is blocked
  · refine ⟨s.blockLoad x b, accept_about hx rfl rfl, rfl, blockLoad_turn s x b, ?_⟩
    cases b with
    | overlap l c =>
      refine ⟨fun h => ?_, fun h => blockLoad_core_of_add (Blocked.add_overlap_none h)⟩
      rw [blockLoad_core_blocked]
      exact Blocked.mem_add_overlap h
    | untilRetire a =>
      simp only [blockLoad_core_blocked, Blocked.mem_add_untilRetire]
      exact ⟨.inl trivial, fun c => .inr⟩
    | unknownAddress | unknownData _ _ | overlapUnlisted | l1d _ => exact blockLoad_core_of_add rfl
  -- a micro-op retires
  · have late : (s.core x).inFlight.retirement < u.completes.length + (s.core x).inFlight.execution →
        s.retire x u = s := fun h => retire_of_not_canRetire fun hc => Nat.not_le.mpr h hc.executed
    refine ⟨s.retire x u, accept_about hx rfl rfl, retire_of_not_canRetire, late, fun hf h => late (by omega),
      fun h => ?_⟩
    rw [← Core.holdsRetirement_eq_false] at h
    obtain ⟨-, hq, -⟩ := retire_bus_queue h
    rw [retire_core h, hq]
    refine ⟨?_, rfl, rfl, rfl, rfl, fun a => Core.mem_retired_untilRetirement⟩
    rw [← List.countP_eq_length_filter]
    rfl
  -- instructions are thrown away, without and with a restart
  · refine ⟨_, accept_abandon hx n k loads, ?_⟩
    rw [modCore_core]
    refine ⟨rfl, rfl, rfl, fun m => Core.mem_abandoned_fences, rfl, rfl, fun a => Core.mem_abandoned_untilRetirement,
      fun l c => Core.mem_abandoned_untilCommit, modCore_now .., modCore_turn .., fun cause => ?_⟩
    refine ⟨s.restart x cause n k loads, _, accept_about hx rfl rfl, rfl, restart_turn .., ?_,
      fun y hy => restart_core_other s cause n k loads hy, accept_abandon hx ..⟩
    obtain ⟨hc, -⟩ := restart_core s x cause n k loads
    rw [hc, modCore_core, Nuke.throws_eq]

end Sys2Proof.Machine
end

section
/-! `select`, `read`, the register addresses and the start of counting (O26, O28, O30 and O31). -/

namespace Sys2Proof.Machine

/-! ## Counting modulo the width (rule R26) -/

/-- Settles O28: the counter shows its new count modulo its width, and the old count is what it showed, so that the two
sums agree modulo the width. -/
theorem countersWrapSilently : Obligations.CountersWrapSilently := by
  intro s c n hc he hv
  refine ⟨?_, addTo_nominal_same s c n hc, activity_addTo s c n⟩
  by_cases hn : n = 0
  · rw [hn, addTo_zero, hv, Nat.add_zero, Nat.mod_mod]
  · rw [addTo_value_same s c n hc hn, State.held, approx_exact s _ he, hv, Nat.mod_add_mod]

/-! ## The operations of software on counters: what is accepted (rules R27 and R84) -/

section
variable {s : State} {x : CoreId} (hx : s.hasCore x = true)
include hx

theorem accept_select (k : Nat) (e u : Byte) : s.accept (.select x k e u) = s.acceptSelect x k e u := if_pos hx

theorem accept_readMsr (a : Nat) : s.accept (.readMsr x a) = s.acceptReadMsr x a := if_pos hx

theorem accept_writeMsr (a w : Nat) : s.accept (.writeMsr x a w) = s.acceptWriteMsr x a w := if_pos hx

theorem accept_read_gp (k : Nat) : s.accept (.read (.gp x k)) = s.acceptRead (.gp x k) := if_pos hx

/-- A fixed-function counter of a core that exists can always be read (rules R23 to R25). -/
theorem accept_read_fixed (f : FixedId) : s.accept (.read (.fixed x f)) = .next (s.readCounter (.fixed x f)) :=
  (if_pos hx).trans (if_pos hx)

/-- The indices of the general-purpose counters of a core that exists (rule R21). -/
theorem hasCounter_gp_iff (k : Nat) : s.hasCounter (.gp x k) = true ↔ k < (s.core x).gp.length := by
  simp [State.hasCounter, hx]

end

/-! ## `select` (rule R27) -/

/-- `select` leaves every counter but the one selected. -/
theorem selectEvent_other (s : State) (x : CoreId) (k : Nat) (e u : Byte) {c : CounterId} (h : c ≠ .gp x k) :
    (s.selectEvent x k e u).nominal c = s.nominal c ∧ (s.selectEvent x k e u).value c = s.value c := by
  cases c with
  | gp y j =>
    by_cases hy : y = x
    · have hj : k ≠ j := fun hj => h (by rw [hy, hj])
      simp [State.nominal, State.value, State.selectEvent, hy, List.getElem?_set_ne hj]
    · simp [State.nominal, State.value, State.selectEvent, setCore_core_other s _ hy]
  | fixed y g => by_cases hy : y = x <;> simp [State.nominal, State.value, State.selectEvent, setCore_core_eq, hy]

/-- A counter that is selected holds the pair and is zero. -/
theorem selectEvent_gp_same (s : State) {x : CoreId} {k : Nat} (e u : Byte) (hk : k < (s.core x).gp.length) :
    ((s.selectEvent x k e u).core x).gp[k]? = some ⟨true, e, u, 0, 0⟩ := by
  simp [State.selectEvent, hk]

/-- A counter that is selected is zero (rule R27). -/
theorem selectEvent_zero (s : State) {x : CoreId} {k : Nat} (e u : Byte) (hk : k < (s.core x).gp.length) :
    (s.selectEvent x k e u).nominal (.gp x k) = 0 ∧ (s.selectEvent x k e u).value (.gp x k) = 0 := by
  simp [State.nominal, State.value, selectEvent_gp_same s e u hk]

theorem selectEvent_core_other (s : State) {x y : CoreId} (k : Nat) (e u : Byte) (h : y ≠ x) :
    (s.selectEvent x k e u).core y = s.core y := setCore_core_other s _ h

/-- Settles O30: inside the range `select` writes one entry of the list of counters, outside it is refused. -/
theorem selectWritesAndZeroes : Obligations.SelectWritesAndZeroes := by
  intro s x k e u hx
  rw [accept_select hx]
  refine ⟨fun hk => ⟨s.selectEvent x k e u, if_pos hk, selectEvent_gp_same s e u hk,
    fun c hc => selectEvent_other s x k e u hc, fun j hj => ?_, fun y hy => selectEvent_core_other s k e u hy,
    activity_setCore s x _ (activity_gp _ _), setCore_drawn ..⟩, fun hk => if_neg (Nat.not_lt.mpr hk)⟩
  rw [State.selectEvent, setCore_core_same]
  exact List.getElem?_set_ne hj.symm

/-! ## `read` (rules R27, R43 and R112) -/

/-- Where nothing is known of a counter, a read answers some value of CTR_WIDTH bits (log entry 4). -/
theorem answersAny_eq (s : State) :
    ∃ v, v < 2 ^ s.params.ctrWidth ∧ s.answersAny = { s with readout := some v, drawn := s.drawn + 1 } :=
  ⟨_, Nat.mod_lt _ (Nat.two_pow_pos _), rfl⟩

theorem readCounter_gp {s : State} {x : CoreId} {k : Nat} {g : GpCounter} (hg : (s.core x).gp[k]? = some g) :
    s.readCounter (.gp x k) = if g.listed s.params then s.answers g.pmc else s.answersAny := by
  simp only [State.readCounter, hg]

/-- A counter whose selection is unlisted, or that has none (rules R43, R112 and R113). -/
theorem listed_eq_false {g : GpCounter} {p : Params}
    (h : g.selected = false ∨ decodeSelection p g.eventNum g.umask = none) : g.listed p = false := by
  obtain h | h := h <;> simp [GpCounter.listed, h]

theorem readCounter_fixed_started {s : State} {x : CoreId} (f : FixedId) (h : (s.core x).fixedStarted = true) :
    s.readCounter (.fixed x f) = { s with readout := some ((s.core x).fixedCtr f).value } := if_pos h

theorem readCounter_fixed_unstarted {s : State} {x : CoreId} (f : FixedId) (h : (s.core x).fixedStarted = false) :
    s.readCounter (.fixed x f) = s.answersAny := if_neg (Bool.eq_false_iff.mp h)

/-- Settles O31: a counter that exists is read, and what is answered depends on whether its selection is listed. -/
theorem readAnswersTheCounter : Obligations.ReadAnswersTheCounter := by
  refine ⟨fun s x k hx hk => ?_, fun s x k g hx hg => ?_⟩
  · rw [accept_read_gp hx]
    exact if_neg (mt (hasCounter_gp_iff hx k).mp (Nat.not_lt.mpr hk))
  · have hread : s.accept (.read (.gp x k)) = .next (s.readCounter (.gp x k)) :=
      (accept_read_gp hx k).trans (if_pos ((hasCounter_gp_iff hx k).mpr (List.getElem?_eq_some_iff.mp hg).1))
    rw [hread, readCounter_gp hg]
    refine ⟨fun hs hd => ?_, fun h => ?_⟩
    · rw [if_pos (by rw [GpCounter.listed, hs, hd]; rfl), State.answers]
    · obtain ⟨v, hv, e⟩ := answersAny_eq s
      exact ⟨v, hv, by rw [if_neg (Bool.eq_false_iff.mp (listed_eq_false h)), e]⟩

/-! ## Register addresses (rules R23 to R25 and R84) -/

theorem fixedAt_eq_none_iff {a : Nat} : fixedAt a = none ↔ a ∉ [0x309, 0x30A, 0x30B] := by
  unfold fixedAt
  split <;> simp_all

/-- Only the three addresses name an event of Table A-2 (rule R117). -/
theorem decodeMsr_eq_none {a : Nat} (h : a ∉ [0x309, 0x30A, 0x30B]) : decodeMsr a = none := by
  unfold decodeMsr
  split <;> simp_all

theorem registerAt_fixed (p : Params) (f : FixedId) : registerAt p f.address = some (.fixed f) := by cases f <;> rfl

/-- The addresses of the registers are different from one another (rule R9). -/
theorem Params.wf_addresses {p : Params} (h : p.wf = true) :
    ([0x309, 0x30A, 0x30B] ++ p.pmcAddrs ++ p.evtselAddrs).Nodup := of_decide_eq_true (Bool.and_eq_true_iff.mp h).2

/-- In a list without repetition an element is found where it stands. -/
theorem idxOf?_of_getElem? {l : List Nat} {k a : Nat} (hl : l.Nodup) (h : l[k]? = some a) : l.idxOf? a = some k := by
  obtain ⟨hk, rfl⟩ := List.getElem?_eq_some_iff.mp h
  exact List.idxOf?_eq_some_iff.mpr ⟨hk, rfl, fun j hj e => hj.ne (hl.getElem_inj_iff.mp e)⟩

theorem registerAt_pmc {p : Params} {k a : Nat} (hp : p.wf = true) (h : p.pmcAddrs[k]? = some a) :
    registerAt p a = some (.pmc k) := by
  obtain ⟨hfp, -, -⟩ := List.nodup_append.mp (Params.wf_addresses hp)
  obtain ⟨-, hn, hd⟩ := List.nodup_append.mp hfp
  have hf : fixedAt a = none := fixedAt_eq_none_iff.mpr fun ha => hd a ha a (List.mem_of_getElem? h) rfl
  simp only [registerAt, hf, idxOf?_of_getElem? hn h]

theorem registerAt_evtsel {p : Params} {k a : Nat} (hp : p.wf = true) (h : p.evtselAddrs[k]? = some a) :
    registerAt p a = some (.evtsel k) := by
  obtain ⟨-, hn, hd⟩ := List.nodup_append.mp (Params.wf_addresses hp)
  have ha : a ∉ [0x309, 0x30A, 0x30B] ++ p.pmcAddrs := fun ha => hd a ha a (List.mem_of_getElem? h) rfl
  rw [List.mem_append, not_or] at ha
  simp only [registerAt, fixedAt_eq_none_iff.mpr ha.1, List.idxOf?_eq_none_iff.mpr ha.2, idxOf?_of_getElem? hn h,
    Option.map_some]

theorem registerAt_none {p : Params} {a : Nat} (hf : a ∉ [0x309, 0x30A, 0x30B]) (hp : a ∉ p.pmcAddrs)
    (he : a ∉ p.evtselAddrs) : registerAt p a = none := by
  simp only [registerAt, fixedAt_eq_none_iff.mpr hf, List.idxOf?_eq_none_iff.mpr hp, List.idxOf?_eq_none_iff.mpr he,
    Option.map_none]

/-! ## The fields of a register word (D4) -/

/-- Of two bytes put into one word at places that do not overlap, the first is read back at its place. -/
theorem byte_of_word {a b l m : Nat} (ha : a < 256) (hb : b < 256) (h : l + 8 ≤ m ∨ m + 8 ≤ l) :
    (a * 2 ^ l + b * 2 ^ m) / 2 ^ l % 256 = a := by
  obtain h | h := h
  · obtain ⟨d, rfl⟩ := Nat.exists_eq_add_of_le h
    have e : a * 2 ^ l + b * 2 ^ (l + 8 + d) = 2 ^ l * (a + 256 * (b * 2 ^ d)) := by ring
    rw [e, Nat.mul_div_cancel_left _ (Nat.two_pow_pos l)]
    omega
  · have hlt : b * 2 ^ m < 2 ^ l := calc
      b * 2 ^ m < 2 ^ 8 * 2 ^ m := Nat.mul_lt_mul_of_pos_right hb (Nat.two_pow_pos m)
      _ = 2 ^ (m + 8) := by rw [Nat.pow_add, Nat.mul_comm]
      _ ≤ 2 ^ l := Nat.pow_le_pow_right Nat.two_pos h
    rw [Nat.mul_comm a, Nat.mul_add_div (Nat.two_pow_pos l), Nat.div_eq_of_lt hlt]
    omega

theorem wordEventNum_evtselWord {p : Params} (e u : Byte)
    (h : p.layout.eventLsb + 8 ≤ p.layout.umaskLsb ∨ p.layout.umaskLsb + 8 ≤ p.layout.eventLsb) :
    wordEventNum p (evtselWord p e u) = e :=
  BitVec.eq_of_toNat_eq ((BitVec.toNat_ofNat ..).trans (byte_of_word e.isLt u.isLt h))

theorem wordUmask_evtselWord {p : Params} (e u : Byte)
    (h : p.layout.eventLsb + 8 ≤ p.layout.umaskLsb ∨ p.layout.umaskLsb + 8 ≤ p.layout.eventLsb) :
    wordUmask p (evtselWord p e u) = u := by
  refine BitVec.eq_of_toNat_eq ((BitVec.toNat_ofNat ..).trans ?_)
  rw [evtselWord, Nat.add_comm]
  exact byte_of_word u.isLt e.isLt h.symm

/-! ## Accesses by address -/

section
variable {s : State} {x : CoreId} (hx : s.hasCore x = true) {a : Nat}
include hx

theorem accept_readMsr_of_fixed {f : FixedId} (h : registerAt s.params a = some (.fixed f)) :
    s.accept (.readMsr x a) = s.accept (.read (.fixed x f)) := by
  rw [accept_readMsr hx, accept_read_fixed hx]
  simp only [State.acceptReadMsr, h]

theorem accept_readMsr_of_pmc {k : Nat} (h : registerAt s.params a = some (.pmc k)) :
    s.accept (.readMsr x a) = s.accept (.read (.gp x k)) := by
  rw [accept_readMsr hx, accept_read_gp hx]
  simp only [State.acceptReadMsr, h]

theorem accept_readMsr_of_evtsel {k : Nat} (h : registerAt s.params a = some (.evtsel k)) :
    s.accept (.readMsr x a) = .refused .evtselRead := by
  rw [accept_readMsr hx]
  simp only [State.acceptReadMsr, h]

theorem accept_writeMsr_of_evtsel {k : Nat} (w : Nat) (h : registerAt s.params a = some (.evtsel k)) :
    s.accept (.writeMsr x a w) = s.accept (.select x k (wordEventNum s.params w) (wordUmask s.params w)) := by
  rw [accept_writeMsr hx, accept_select hx]
  simp only [State.acceptWriteMsr, h]

/-- A counter is not written by software (93_implementation_defined.md row 9). -/
theorem accept_writeMsr_of_counter (w : Nat)
    (h : (∃ f, registerAt s.params a = some (.fixed f)) ∨ ∃ k, registerAt s.params a = some (.pmc k)) :
    s.accept (.writeMsr x a w) = .refused .counterWrite := by
  rw [accept_writeMsr hx]
  obtain ⟨f, h⟩ | ⟨k, h⟩ := h <;> simp only [State.acceptWriteMsr, h]

theorem accept_msr_outside (w : Nat) (h : registerAt s.params a = none) :
    s.accept (.readMsr x a) = .refused .msrOutsideSpec ∧ s.accept (.writeMsr x a w) = .refused .msrOutsideSpec := by
  rw [accept_readMsr hx, accept_writeMsr hx]
  simp only [State.acceptReadMsr, State.acceptWriteMsr, h, and_self]

end

/-- Settles O26: which register stands at an address decides what an access to it does. -/
theorem registersByAddress : Obligations.RegistersByAddress := by
  refine ⟨⟨rfl, rfl, rfl, rfl, rfl, rfl, fun a h0 h1 h2 => ?_⟩, fun s x f hx => ?_,
    fun s x hx => accept_about hx rfl rfl, fun s x k a b w hx hp ha hb => ?_, fun s x a w hx hf hp he => ?_,
    fun p e u h => ⟨wordEventNum_evtselWord e u h, wordUmask_evtselWord e u h⟩⟩
  · have ha : a ∉ [0x309, 0x30A, 0x30B] := by simp [h0, h1, h2]
    exact ⟨fixedAt_eq_none_iff.mpr ha, decodeMsr_eq_none ha⟩
  · have hr := registerAt_fixed s.params f
    refine ⟨accept_readMsr_of_fixed hx hr, fun w => accept_writeMsr_of_counter hx w (.inl ⟨f, hr⟩), fun h => ?_,
      fun h => ?_⟩
    · rw [accept_read_fixed hx, readCounter_fixed_started f h]
    · obtain ⟨v, hv, e⟩ := answersAny_eq s
      exact ⟨v, hv, by rw [accept_read_fixed hx, readCounter_fixed_unstarted f h, e]⟩
  · have hra := registerAt_pmc hp ha
    have hrb := registerAt_evtsel hp hb
    exact ⟨accept_readMsr_of_pmc hx hra, accept_writeMsr_of_evtsel hx w hrb,
      accept_writeMsr_of_counter hx w (.inr ⟨k, hra⟩), accept_readMsr_of_evtsel hx hrb⟩
  · exact accept_msr_outside hx w (registerAt_none hf hp he)

end Sys2Proof.Machine
end

section
/-! Steps, the state after reset, and what writes a counter (O34, O37 and O38). -/

namespace Sys2Proof.Machine

/-! ## What a step runs -/

/-- The event of a counter that is served runs, and the turn passes on (rules R21, R114 and R117). -/
theorem step_of_fetch {s : State} {c : CounterId} {rest : List CounterId} {i : Instr} (ht : s.turn = c :: rest)
    (hf : s.fetch c = some i) : ∃ t, exec i s = .next t ∧ step s = .next (t.served rest) := by
  obtain ⟨t, he, -⟩ := exec_next i s
  exact ⟨t, he, by simp only [step, ht, hf, he]⟩

/-- A counter whose pair is unlisted is passed over (rule R112; log entry 20). -/
theorem step_of_fetch_none {s : State} {c : CounterId} {rest : List CounterId} (ht : s.turn = c :: rest)
    (hf : s.fetch c = none) : step s = .next (s.served rest) := by simp only [step, ht, hf]

theorem fetch_gp {s : State} {x : CoreId} {k : Nat} {g : GpCounter} (hg : (s.core x).gp[k]? = some g)
    (hs : g.selected = true) : s.fetch (.gp x k) = decodeWith s.params.umaskAllRef g.eventNum g.umask := by
  simp only [State.fetch, hg, Option.bind_some, hs, if_true]

theorem step_of_input {s : State} {i : Input} {rest : List Input} (ht : s.turn = []) (hq : s.queue = i :: rest) :
    step s = { s with queue := rest }.accept i := by simp only [step, ht, hq]

theorem step_of_end {s : State} (ht : s.turn = []) (hq : s.queue = []) : step s = .next s := by simp only [step, ht, hq]

/-- Settles O34: a step follows the turn where there is one, and the history where there is none. -/
theorem stepRunsTheDecodedEvent : Obligations.StepRunsTheDecodedEvent := by
  refine ⟨fun s x k rest g ht hg hs => ⟨fun i hd => ?_, fun hd => ?_⟩, fun s x f rest i ht hd => step_of_fetch ht hd,
    fun _ _ => rfl, fun s i rest ht hq => step_of_input ht hq, fun s ht hq => step_of_end ht hq⟩
  · exact step_of_fetch ht ((fetch_gp hg hs).trans hd)
  · exact step_of_fetch_none ht ((fetch_gp hg hs).trans hd)

/-! ## The state after reset (rules R43 and R541) -/

theorem initial_core (p : Params) (x : CoreId) : (State.initial p).core x = .reset p.nGp := by cases x <;> rfl

/-- An empty pipeline is within its bounds. -/
theorem Core.pipelineWf_reset (n : Nat) (p : Params) : (Core.reset n).pipelineWf p where
  retirement := Nat.zero_le _
  execution := Nat.zero_le _
  loads := Nat.zero_le _
  stores := Nat.zero_le _
  buffered := Nat.le_refl 0
  fenced _ h := absurd h List.not_mem_nil
  draining h := by cases h
  busSets _ := Nat.zero_le _
  unexecuted := Nat.le_refl 0
  unretired := Nat.le_refl 0

theorem Core.wf_reset (p : Params) : (Core.reset p.nGp).Wf p where
  counters := List.length_replicate
  gpWidth g hg := by
    rw [List.eq_of_mem_replicate hg]
    exact Nat.two_pow_pos _
  fixedWidth f := by cases f <;> exact Nat.two_pow_pos _
  l1dLines := rfl
  l1iLines := rfl
  pipeline := pipelineWf_reset ..

/-- Whatever the parameters, the invariant holds before anything has happened, where they are what rule R9 demands. -/
theorem State.Inv.initial {p : Params} (hp : p.wf = true) : (State.initial p).Inv := by
  refine .of_parts (fun x => initial_core p x ▸ Core.wf_reset p) ⟨hp, fun v hv => ?_, rfl, fun b hb => ?_, fun hot => ?_⟩
    fun c hc => absurd hc List.not_mem_nil
  · cases hv
  · exact absurd hb List.not_mem_nil
  · exact absurd (of_decide_eq_true hot) (Nat.not_lt_zero _)

/-- The parameters of the family meet rule R9 (log entries 1 and 2). -/
theorem Params.wf_family : Params.family.wf = true := by decide +kernel

/-- No general-purpose counter of a core has a selection at reset (rule R43). -/
theorem Core.reset_unselected (n : Nat) : ∀ g ∈ (Core.reset n).gp, g.selected = false := fun _ hg => by
  rw [List.eq_of_mem_replicate hg]
  rfl

/-- A core none of whose counters has a selection, and that has not started the others, has no counter that counts. -/
theorem Core.listening_eq_nil {c : Core} (x : CoreId) (hg : ∀ g ∈ c.gp, g.selected = false)
    (hf : c.fixedStarted = false) : c.listening x = [] := by
  have hsel : ∀ k : Nat, (c.gp[k]?).any GpCounter.selected = false := fun k => by
    cases hk : c.gp[k]? with
    | none => rfl
    | some g => exact hg g (List.mem_of_getElem? hk)
  simp [Core.listening, hsel, hf]

theorem listening_initial (p : Params) : (State.initial p).listening = [] := by
  refine List.flatMap_eq_nil_iff.mpr fun x _ => ?_
  rw [initial_core]
  exact Core.listening_eq_nil x (Core.reset_unselected _) rfl

/-- Settles O37: reset is the initial state of the family's parameters. -/
theorem resetMeetsInvariant : Obligations.ResetMeetsInvariant := by
  refine ⟨State.Inv.initial Params.wf_family, fun x => ?_, fun x => ?_, listening_initial _, rfl⟩
  · rw [State.reset, initial_core]
    exact Core.reset_unselected _
  · rw [State.reset, initial_core]
    rfl

/-! ## What an input leaves of the cores and of their counters (rules R27 and R42) -/

/-- The counters of a core. -/
def Core.counters (c : Core) : List GpCounter × FixedCounter × FixedCounter × FixedCounter :=
  (c.gp, c.fixed0, c.fixed1, c.fixed2)

/-- What a counter holds is read of the counters of its core. -/
theorem counts_congr {s t : State} {c : CounterId} (h : ∀ y, (t.core y).counters = (s.core y).counters) :
    t.nominal c = s.nominal c ∧ t.value c = s.value c := by
  have hgp : ∀ y, (t.core y).gp = (s.core y).gp := fun y => congrArg Prod.fst (h y)
  have hfixed : ∀ y f, (t.core y).fixedCtr f = (s.core y).fixedCtr f := fun y f => by
    have hy := h y
    simp only [Core.counters, Prod.mk.injEq] at hy
    obtain ⟨-, h0, h1, h2⟩ := hy
    cases f <;> assumption
  cases c <;> simp only [State.nominal, State.value, hgp, hfixed, and_self]

/-- From `s` to `t` at most core `x` changes, and of it no counter. -/
structure State.OnlyCore (s t : State) (x : CoreId) : Prop where
  other : ∀ y, y ≠ x → t.core y = s.core y
  counters : (t.core x).counters = (s.core x).counters

theorem State.OnlyCore.all_counters {s t : State} {x : CoreId} (h : s.OnlyCore t x) (y : CoreId) :
    (t.core y).counters = (s.core y).counters := by
  by_cases hy : y = x
  · rw [hy, h.counters]
  · rw [h.other y hy]

theorem State.OnlyCore.refl (s : State) (x : CoreId) : s.OnlyCore s x := ⟨fun _ _ => rfl, rfl⟩

/-- A change of what is no core. -/
theorem State.OnlyCore.of_cores {s t : State} {x : CoreId} (h : ∀ y, t.core y = s.core y) : s.OnlyCore t x :=
  ⟨fun y _ => h y, by rw [h]⟩

theorem State.OnlyCore.modCore (s : State) {x : CoreId} {f : Core → Core}
    (h : (f (s.core x)).counters = (s.core x).counters) : s.OnlyCore (s.modCore x f) x :=
  ⟨fun _ hy => modCore_core_other s x f hy, by rw [modCore_core, h]⟩

/-- A change of a core, then one of what is no core. -/
theorem State.OnlyCore.trans_cores {s t u : State} {x : CoreId} (h : s.OnlyCore t x)
    (hu : ∀ y, u.core y = t.core y) : s.OnlyCore u x :=
  ⟨fun y hy => (hu y).trans (h.other y hy), by rw [hu, h.counters]⟩

theorem State.OnlyCore.begin {s t : State} {x : CoreId} (h : s.OnlyCore t x) (m : Moment) : s.OnlyCore (t.begin m) x :=
  h.trans_cores fun _ => rfl

theorem State.OnlyCore.followedBy {s t : State} {x : CoreId} (h : s.OnlyCore t x) (l : List Input) :
    s.OnlyCore (t.followedBy l) x := h.trans_cores fun _ => rfl

/-- Only the fields that the operations on the pipeline write change. -/
theorem Core.counters_of_elsewhere {c d : Core} (h : c.SameElsewhere d) : c.counters = d.counters :=
  (congrArg Core.counters h :).symm

@[simp] theorem Core.counters_setSegment (c : Core) (r : SegReg) (v : Segment) :
    (c.setSegment r v).counters = c.counters := by cases r <;> rfl

theorem onlyCore_retire (s : State) (x : CoreId) (u : RetiredUop) : s.OnlyCore (s.retire x u) x := by
  unfold State.retire
  split
  · exact .refl s x
  · refine State.OnlyCore.begin (.followedBy ⟨fun y hy => ?_, ?_⟩ _) _
    · exact modCore_core_other (s.modCore x _) x _ hy |>.trans (modCore_core_other s x _ hy)
    · rw [startLocks_core, modCore_core]
      rfl

theorem onlyCore_writeControl (s : State) (x : CoreId) (b : Bool) (v : Nat) (f : Bool) :
    s.OnlyCore (s.writeControl x b v f) x := by
  have hregs : s.OnlyCore (s.modCore x fun c =>
      { c with regs := if b then { c.regs with cr3 := v } else { c.regs with cr0 := v } }) x := .modCore s rfl
  cases f
  · exact hregs
  · refine State.OnlyCore.begin ⟨fun y hy => ?_, ?_⟩ _
    · rw [modCore_core_other _ _ _ hy, hregs.other y hy]
    · rw [modCore_core]
      exact hregs.counters

/-- Working off the stalls of a core touches none of its counters. -/
theorem counters_workOff (s : State) (t : Tick) (y : CoreId) :
    ((s.workOff t).core y).counters = (s.core y).counters := by
  rw [workOff_core]
  split <;> rfl

/-- The cycle of a core clock works off the stalls of that core alone (rule R14 (a)). -/
theorem onlyCore_workOff_core (s : State) (x : CoreId) : s.OnlyCore (s.workOff (.core x)) x := by
  refine ⟨fun y hy => ?_, counters_workOff s _ x⟩
  have hn : unnamedTick s y ≠ .core x := by
    unfold unnamedTick
    cases s.params.unnamedClock <;> simp [hy]
  rw [workOff_core, if_neg hn]

/-- An input about a core that does not start the fixed-function counters changes that core alone, and no counter of it;
what the operations of software on counters do is not part of `advance` (rules R27 and R42). -/
theorem advance_onlyCore (s : State) {i : Input} {x : CoreId} (hi : i.core? = some x) (hs : i ≠ .startFixed x) :
    s.OnlyCore (s.advance i) x := by
  cases i
  case startFixed => cases hi; exact absurd rfl hs
  case tick t => cases t <;> cases hi; exact (onlyCore_workOff_core s x).begin _
  case read c => cases c <;> cases hi <;> exact .refl s x
  all_goals cases hi
  all_goals dsimp only [State.advance]
  case select | readMsr | writeMsr => exact .refl s x
  case setPipe | setPredictors | abandon | dequeue | setRegs | halt | wake | disableInterrupts | setTlb | l1iLineState |
      prefetchStart | fpcwWrite => exact .modCore s rfl
  case enterPipe => exact .modCore s (Core.counters_of_elsewhere (Core.enter_elsewhere ..))
  case execute => exact .modCore s (Core.counters_of_elsewhere (Core.executed_elsewhere _))
  case storeWait => exact .modCore s (Core.counters_of_elsewhere (Core.storeWaits_elsewhere _))
  case storeCommit => exact .modCore s (Core.counters_of_elsewhere (Core.storeCommits_elsewhere _))
  case drain => exact .modCore s (Core.counters_of_elsewhere (Core.drain_elsewhere ..))
  case fence => exact .modCore s (Core.counters_of_elsewhere (Core.fence_elsewhere _))
  case ioRequest => exact .modCore s (Core.counters_of_elsewhere (Core.requestIo_elsewhere _))
  case nuke | transition | l1dLineIn | coreSnoop | itlbFlush | espImplicit | fpInst | mmxInst | emms | fpswWrite =>
    exact State.OnlyCore.begin (.modCore s rfl) _
  case dataAccess | fpOp | l2LineIn | l2LineOut | l2Request | l2Reject | writeBackToL2 | dplPrefetch =>
    exact .of_cores fun _ => rfl
  case pageWalkStart | pageWalkEnd => exact State.OnlyCore.trans_cores (.modCore s rfl) fun _ => rfl
  case busRequest r n =>
    unfold State.requestBus
    split
    exacts [.modCore s rfl, .of_cores fun _ => rfl]
  case interrupt =>
    exact State.OnlyCore.begin (.modCore s (Core.counters_of_elsewhere (Core.drain_elsewhere _ _) :)) _
  case takeInterrupt =>
    split
    exacts [.modCore s rfl, .refl s x]
  case occ o =>
    unfold State.occur
    split
    exacts [State.OnlyCore.begin (.modCore s rfl) _, .of_cores fun _ => rfl]
  case segmentLoad r v retires =>
    refine State.OnlyCore.begin (.modCore s ?_) _
    cases retires
    exacts [rfl, Core.counters_setSegment ..]
  case segmentUpdate r =>
    unfold State.updateSegment
    split
    exacts [.of_cores fun _ => rfl, State.OnlyCore.begin (.modCore s (Core.counters_setSegment ..)) _]
  case segmentRetire r => exact .modCore s (Core.counters_setSegment ..)
  case dataRef a =>
    obtain ⟨-, e⟩ | ⟨-, -, e⟩ | ⟨-, -, e⟩ := makeRef_cases s x a <;> rw [e]
    exacts [.refl s x, State.OnlyCore.begin (.modCore s rfl) _, .of_cores fun _ => rfl]
  case retiredRef a =>
    obtain ⟨-, e⟩ | ⟨-, e⟩ := makeRetiredRef_cases s x a <;> rw [e]
    exacts [.refl s x, .of_cores fun _ => rfl]
  case l1dLineOut n => exact State.OnlyCore.begin (.followedBy (.modCore s rfl) _) _
  case l1dLineState n st =>
    obtain ⟨-, -, e⟩ | ⟨-, e⟩ := setL1dState_cases s x n st <;> rw [e]
    exacts [State.OnlyCore.begin (.followedBy (.modCore s rfl) _) _, .modCore s rfl]
  case loadSent b =>
    obtain ⟨-, e⟩ | ⟨-, e⟩ := sendLoad_cases s x b <;> rw [e]
    exacts [.refl s x, .of_cores fun _ => rfl]
  case prefetchEnd k a st =>
    unfold State.endPrefetch
    dsimp only
    split
    exacts [State.OnlyCore.followedBy (.modCore s rfl) _, .refl s x]
  case lockEnd a =>
    unfold State.endLock
    split
    exacts [.of_cores fun _ => rfl, .modCore s rfl]
  case fetch f =>
    obtain ⟨-, e⟩ | ⟨-, e⟩ := fetchInst_cases s x f <;> rw [e]
    exacts [.refl s x, .of_cores fun _ => rfl]
  case controlWrite b v f => exact onlyCore_writeControl s x b v f
  case lengthDecode d =>
    unfold State.decodeLength
    split
    exacts [.modCore s rfl, .refl s x]
  case espExplicit =>
    unfold State.useEsp
    split
    exacts [State.OnlyCore.begin (.modCore s rfl) _, .refl s x]
  case retire u => exact onlyCore_retire s x u

@[simp] theorem submit_core (s : State) (b : BusTrans) (y : CoreId) : (s.submit b).core y = s.core y := by
  unfold State.submit
  split <;> rfl

/-- An input about no core leaves both cores, but for the temperature, the thermal check and cycles (rule R42). -/
theorem advance_core_of_package (s : State) {i : Input} (hi : i.core? = none) (ht : ∀ n, i ≠ .temperature n)
    (hm : i ≠ .millisecond) (hk : ∀ k, i ≠ .tick k) (y : CoreId) : (s.advance i).core y = s.core y := by
  cases i
  case temperature n => exact absurd rfl (ht n)
  case millisecond => exact absurd rfl hm
  case tick k => exact absurd rfl (hk k)
  case read c => rfl
  case setBus | l2LineState | bnr | snoopStall | snoopResponse => rfl
  case busTrans b => exact submit_core s b y
  all_goals cases hi

theorem counters_setTemperature (s : State) (n : Nat) (y : CoreId) :
    ((s.setTemperature n).core y).counters = (s.core y).counters := by
  unfold State.setTemperature
  split <;> cases y <;> rfl

theorem counters_thermalCheck (s : State) (y : CoreId) : (s.thermalCheck.core y).counters = (s.core y).counters := by
  unfold State.thermalCheck
  split <;> cases y <;> rfl

theorem counters_tickClock (s : State) (k : Tick) (y : CoreId) :
    ((s.tickClock k).core y).counters = (s.core y).counters := by
  cases k with
  | core x => exact counters_workOff s _ y
  | bus => exact counters_workOff s .bus y
  | ref =>
    obtain h | h := Nat.lt_or_ge s.refCredit s.params.busCycles
    · rw [tickClock_ref_unearned h]
    · rw [tickClock_ref_earned h]
      exact counters_workOff s .ref y

/-- Nothing but `select` and the start of counting writes a counter outside the counting itself (rule R27). -/
theorem advance_counters (s : State) {i : Input} (hs : ∀ x, i ≠ .startFixed x) (y : CoreId) :
    ((s.advance i).core y).counters = (s.core y).counters := by
  cases hi : i.core? with
  | some x => exact (advance_onlyCore s hi (hs x)).all_counters y
  | none =>
    by_cases hk : ∃ k, i = .tick k
    · obtain ⟨k, rfl⟩ := hk
      exact counters_tickClock s k y
    by_cases ht : ∃ n, i = .temperature n
    · obtain ⟨n, rfl⟩ := ht
      exact counters_setTemperature s n y
    by_cases hm : i = .millisecond
    · subst hm
      exact counters_thermalCheck s y
    · rw [advance_core_of_package s hi (fun n h => ht ⟨n, h⟩) hm (fun k h => hk ⟨k, h⟩) y]

theorem readCounter_core (s : State) (c : CounterId) (y : CoreId) : (s.readCounter c).core y = s.core y := by
  unfold State.readCounter
  split
  · split
    · rfl
    · split <;> rfl
  · split <;> rfl

/-- The start of counting sets the fixed-function counters of its core to 0 and leaves every other counter (rule R43). -/
theorem startFixed_counts (s : State) (x : CoreId) (c : CounterId) :
    ((∃ f, c = .fixed x f) ∧ (s.startFixedCounters x).nominal c = 0 ∧ (s.startFixedCounters x).value c = 0) ∨
    ((s.startFixedCounters x).nominal c = s.nominal c ∧ (s.startFixedCounters x).value c = s.value c) := by
  cases c with
  | gp y k => exact .inr (by by_cases hy : y = x <;> simp [State.nominal, State.value, State.startFixedCounters,
      setCore_core_eq, hy])
  | fixed y f =>
    by_cases hy : y = x
    · subst hy
      exact .inl ⟨⟨f, rfl⟩, by cases f <;> simp [State.nominal, State.value, State.startFixedCounters, Core.fixedCtr]⟩
    · exact .inr (by simp [State.nominal, State.value, State.startFixedCounters, setCore_core_other s _ hy])

/-- A counter that changes by counting is the one that is added to, and it gains. -/
theorem eq_of_addTo_changes {s : State} {c d : CounterId} {n : Nat}
    (h : (s.addTo c n).nominal d ≠ s.nominal d ∨ (s.addTo c n).value d ≠ s.value d) :
    c = d ∧ s.nominal d < (s.addTo c n).nominal d := by
  by_cases hd : d = c
  · subst hd
    refine ⟨rfl, ?_⟩
    obtain e | ⟨x, k, g, rfl, hg, hn, e⟩ | ⟨x, f, rfl, hn, e⟩ := addTo_cases s d n
    · rw [e] at h
      exact absurd h (by simp)
    · obtain ⟨hk, rfl⟩ := List.getElem?_eq_some_iff.mp hg
      simp [e, State.nominal, State.bumpGp, hk, Nat.pos_of_ne_zero hn]
    · simp [e, State.nominal, State.bumpFixed, Nat.pos_of_ne_zero hn]
  · obtain ⟨hn, hv⟩ := addTo_other s n hd
    exact absurd h (by simp [hn, hv])

/-- A counter that an accepted input changes was selected anew or started, and is zero (rule R27). -/
theorem zero_of_accept_changes {s t : State} {i : Input} {c : CounterId} (ha : s.accept i = .next t)
    (h : t.nominal c ≠ s.nominal c ∨ t.value c ≠ s.value c) : t.nominal c = 0 ∧ t.value c = 0 ∧
      ((∃ x k e u, i = .select x k e u ∧ c = .gp x k) ∨
       (∃ x a w k, i = .writeMsr x a w ∧ registerAt s.params a = some (.evtsel k) ∧ c = .gp x k) ∨
       ∃ x f, i = .startFixed x ∧ c = .fixed x f) := by
  have unchanged : ¬(t.nominal c = s.nominal c ∧ t.value c = s.value c) := fun ⟨hn, hv⟩ => h.elim (· hn) (· hv)
  obtain rfl | ⟨x, k, e, u, hi, hk, rfl⟩ | ⟨d, -, -, rfl⟩ := accept_next ha
  · by_cases hs : ∃ x, i = .startFixed x
    · obtain ⟨x, rfl⟩ := hs
      obtain ⟨⟨f, rfl⟩, hn, hv⟩ | hu := startFixed_counts s x c
      · exact ⟨hn, hv, .inr (.inr ⟨x, f, rfl, rfl⟩)⟩
      · exact absurd hu unchanged
    · exact absurd (counts_congr (advance_counters s fun x hx => hs ⟨x, hx⟩)) unchanged
  · by_cases hc : c = .gp x k
    · subst hc
      obtain ⟨hn, hv⟩ := selectEvent_zero s e u hk
      refine ⟨hn, hv, ?_⟩
      obtain rfl | ⟨a, w, rfl, hr⟩ := hi
      · exact .inl ⟨x, k, e, u, rfl, rfl⟩
      · exact .inr (.inl ⟨x, a, w, k, rfl, hr, rfl⟩)
    · exact absurd (selectEvent_other s x k e u hc) unchanged
  · exact absurd (counts_congr fun y => by rw [readCounter_core]) unchanged

/-- Rule R42: which cores an accepted input leaves as they are. -/
theorem accept_core {s t : State} {i : Input} {y : CoreId} (ha : s.accept i = .next t) :
    (∀ x, i.core? = some x → y ≠ x → t.core y = s.core y) ∧
    (i.core? = none → (∀ n, i ≠ .temperature n) → i ≠ .millisecond → (∀ k, i ≠ .tick k) → t.core y = s.core y) := by
  obtain rfl | ⟨x, k, e, u, hi, -, rfl⟩ | ⟨c, -, -, rfl⟩ := accept_next ha
  · refine ⟨fun x hx hy => ?_, fun hi ht hm hk => advance_core_of_package s hi ht hm hk y⟩
    by_cases hs : i = .startFixed x
    · subst hs
      exact setCore_core_other s _ hy
    · exact (advance_onlyCore s hx hs).other y hy
  · have hx : i.core? = some x := by obtain rfl | ⟨a, w, rfl, -⟩ := hi <;> rfl
    refine ⟨fun z hz hy => ?_, fun hn => ?_⟩
    · cases hx.symm.trans hz
      exact selectEvent_core_other s k e u hy
    · cases hx.symm.trans hn
  · exact ⟨fun _ _ _ => readCounter_core s c y, fun _ _ _ _ => readCounter_core s c y⟩

/-- Settles O38: a step passes the turn on, adds to the counter being served, stays, or accepts an input. -/
theorem onlyCountingAndSelectWriteCounters : Obligations.OnlyCountingAndSelectWriteCounters := by
  refine ⟨fun s t i y ha => accept_core ha, fun s t c hs h => ?_⟩
  obtain ⟨d, rest, ht, -, e⟩ | ⟨d, rest, i, ht, -, -, e⟩ | ⟨d, rest, i, n, ht, -, -, e⟩ | ⟨-, -, e⟩ |
    ⟨i, rest, ht, hq, e⟩ := step_cases s <;> rw [e] at hs
  · obtain rfl := Host.Outcome.next.inj hs
    exact absurd h (by simp [State.nominal, State.value])
  · obtain rfl := Host.Outcome.next.inj hs
    exact absurd h (by simp [State.nominal, State.value])
  · obtain rfl := Host.Outcome.next.inj hs
    obtain ⟨rfl, hlt⟩ := eq_of_addTo_changes (s := s) (c := d) (n := n) h
    exact .inl ⟨by rw [ht, List.head?_cons], hlt⟩
  · obtain rfl := Host.Outcome.next.inj hs
    exact absurd h (by simp)
  · obtain ⟨hn, hv, hi⟩ := zero_of_accept_changes hs h
    exact .inr ⟨ht, hn, hv, i, rest, hq, hi⟩

end Sys2Proof.Machine
end

section
/-! Thermal trips and transitions, interrupts, segment registers, first uses, assists and slow decoding, register writes
(O47, O49, O50, O51, O56 and O57). -/

namespace Sys2Proof.Machine

/-! ## Which cores exist, and which counters count, after a change -/

/-- Which cores exist is read of the parameters (D18). -/
theorem hasCore_of_params {s t : State} {x : CoreId} (hp : t.params = s.params) (hx : s.hasCore x = true) :
    t.hasCore x = true := by
  rwa [State.hasCore, State.cores, hp]

/-- Which counters count is read of the parameters and of the counters of the cores. -/
theorem listening_congr {s t : State} (hp : t.params = s.params) (hg : ∀ y, (t.core y).gp = (s.core y).gp)
    (hs : ∀ y, (t.core y).fixedStarted = (s.core y).fixedStarted) : t.listening = s.listening := by
  simp only [State.listening, State.cores, Core.listening, hp, hg, hs]

/-- Where an input that is no operation of software on counters is accepted, it advances the history. -/
theorem eq_advance_of_accept {s t : State} {i : Input} (hi : i.onCounters = false) (h : s.accept i = .next t) :
    t = s.advance i := by
  obtain e | ⟨x, k, e, u, rfl | ⟨a, w, rfl, -⟩, -, -⟩ | ⟨c, rfl | ⟨x, a, rfl⟩, -, -⟩ := accept_next h
  · exact e
  all_goals cases hi

/-! ## The temperature and the thermal check (rule R31) -/

/-- What a frequency or a voltage is reduced to is lower (log entry 23). -/
theorem reduced_lt (f : Nat → Nat) {n : Nat} (h : 0 < n) : reduced f n < n := by
  rw [reduced, if_neg h.ne']
  exact Nat.mod_lt _ h

theorem exceedsTrip_iff {p : Params} {n : Nat} : exceedsTrip p n = true ↔ p.tripThreshold < n := decide_eq_true_iff

theorem belowTrip_iff {p : Params} {n : Nat} : belowTrip p n = true ↔ n < p.tripThreshold := decide_eq_true_iff

/-- A thermal trip: the temperature exceeds the threshold of a processor that has not tripped. -/
theorem setTemperature_trips {s : State} {n : Nat} (h : s.thermal.tripped = false) (hn : s.params.tripThreshold < n) :
    s.setTemperature n =
      { s with thermal := ⟨n, true⟩, core0 := s.core0.throttle, core1 := s.core1.throttle }.begin
        (.sys .thermalTrip) :=
  if_pos (by simp [exceedsTrip_iff, h, hn])

theorem setTemperature_keeps {s : State} {n : Nat} (h : s.thermal.tripped = true ∨ n ≤ s.params.tripThreshold) :
    s.setTemperature n = { s with thermal := { s.thermal with temperature := n } } := by
  refine if_neg ?_
  rw [Bool.and_eq_true, exceedsTrip_iff]
  obtain h | h := h
  · simp [h]
  · omega

theorem setTemperature_temperature (s : State) (n : Nat) : (s.setTemperature n).thermal.temperature = n := by
  unfold State.setTemperature
  split <;> rfl

/-- A trip throttles every core, and its moment is served to the counters that were counting. -/
theorem setTemperature_trip_effects {s : State} {n : Nat} (h : s.thermal.tripped = false)
    (hn : s.params.tripThreshold < n) : (s.setTemperature n).thermal.tripped = true ∧
      (s.setTemperature n).now = .sys .thermalTrip ∧ (s.setTemperature n).turn = s.listening ∧
      ∀ x, (s.setTemperature n).core x = (s.core x).throttle := by
  rw [setTemperature_trips h hn]
  refine ⟨rfl, rfl, ?_, fun x => by cases x <;> rfl⟩
  exact listening_congr rfl (fun y => by cases y <;> rfl) fun y => by cases y <;> rfl

theorem Core.throttle_lowers (c : Core) : (0 < c.frequency → c.throttle.frequency < c.frequency) ∧
    (0 < c.voltage → c.throttle.voltage < c.voltage) := ⟨reduced_lt _, reduced_lt _⟩

theorem thermalCheck_returns {s : State} (h : s.thermal.tripped = true)
    (ht : s.thermal.temperature < s.params.tripThreshold) : s.thermalCheck =
      { s with
        thermal := { s.thermal with tripped := false }, core0 := s.core0.unthrottle, core1 := s.core1.unthrottle } :=
  if_pos (by simp [belowTrip_iff, h, ht])

theorem thermalCheck_keeps {s : State}
    (h : s.thermal.tripped = false ∨ s.params.tripThreshold ≤ s.thermal.temperature) : s.thermalCheck = s := by
  refine if_neg ?_
  rw [Bool.and_eq_true, belowTrip_iff]
  obtain h | h := h
  · simp [h]
  · omega

theorem thermalCheck_temperature (s : State) : s.thermalCheck.thermal.temperature = s.thermal.temperature := by
  unfold State.thermalCheck
  split <;> rfl

/-! ## Transitions (rules R29, R30 and R245) -/

theorem transitionCounted_iff {c : Nat} {k : TransitionKind} {f v : Option Nat} :
    transitionCounted c ⟨k, f, v⟩ = true ↔
      c = 0 ∧ (k = .tm2 ∨ (k = .eist ∧ f ≠ none) ∨ ∃ n, k = .cState n ∧ 0 < n) := by
  rw [transitionCounted, Bool.and_eq_true, decide_eq_true_eq]
  refine and_congr_right fun hc => ?_
  subst hc
  cases k <;> simp [Option.isSome_iff_ne_none]

theorem Core.afterTransition_cState (c : Core) (k : TransitionKind) (f v : Option Nat) :
    (∀ n, k = .cState n → (c.afterTransition ⟨k, f, v⟩).cState = n) ∧
      ((∀ n, k ≠ .cState n) → (c.afterTransition ⟨k, f, v⟩).cState = c.cState) := by
  cases k with
  | eist | tm2 => exact ⟨nofun, fun _ => rfl⟩
  | cState m => exact ⟨fun n h => by cases h; rfl, fun h => absurd rfl (h m)⟩

/-- Settles O47: the temperature and the check by whether they find the processor tripped, a transition by what it
changes. -/
theorem thermalTripsAndTransitions : Obligations.ThermalTripsAndTransitions := by
  refine ⟨fun s n => ?_, fun s x k f v hx => ?_⟩
  · refine ⟨s.setTemperature n, s.thermalCheck, accept_package rfl rfl, accept_package rfl rfl,
      setTemperature_temperature s n, fun h hn => ?_, setTemperature_keeps, thermalCheck_temperature s, fun h ht => ?_,
      thermalCheck_keeps⟩
    · obtain ⟨htripped, hnow, hturn, hcore⟩ := setTemperature_trip_effects h hn
      refine ⟨htripped, hnow, hturn, fun x => ?_⟩
      rw [hcore]
      exact ⟨rfl, rfl, (s.core x).throttle_lowers⟩
    · rw [thermalCheck_returns h ht]
      exact ⟨rfl, fun x => by cases x <;> exact ⟨rfl, rfl⟩⟩
  · obtain ⟨hcore, hframe, hother, hl2⟩ := makeTransition_keeps s x ⟨k, f, v⟩
    obtain ⟨hto, hstay⟩ := (s.core x).afterTransition_cState k f v
    refine ⟨s.makeTransition x ⟨k, f, v⟩, _, accept_about hx rfl rfl, rfl, ?_⟩
    rw [hcore]
    exact ⟨rfl, rfl, rfl, rfl, hto, hstay, hframe, hother, hl2, transitionCounted_iff⟩

/-! ## Interrupts (rules R33, R69 and R504) -/

theorem receiveInterrupt_core (s : State) (x : CoreId) : (s.receiveInterrupt x).core x =
    { (s.core x).drain .interruptAcknowledgment with intPending := (s.core x).intPending + 1 } := by
  simp [State.receiveInterrupt]

theorem interruptTakeable_iff {c : Core} : interruptTakeable c = true ↔ c.intDisabled = false ∧ 0 < c.intPending := by
  simp [interruptTakeable]

/-- Settles O49: receiving, disabling and taking, each by what it writes. -/
theorem interruptsPendWhileDisabled : Obligations.InterruptsPendWhileDisabled := by
  intro s x hx
  refine ⟨⟨s.receiveInterrupt x, accept_about hx rfl rfl, ?_, fun h => ?_, fun h => ?_, rfl⟩,
    fun b => accept_about hx rfl rfl, s.advance (.takeInterrupt x), accept_about hx rfl rfl, fun h => ?_, fun h => ?_⟩
  · rw [receiveInterrupt_core]
  · rw [receiveInterrupt_core, Core.drain_of_stores h]
  · rw [receiveInterrupt_core, Core.drain_eq_self h]
  · refine if_neg (mt interruptTakeable_iff.mp ?_)
    rintro ⟨hd, hp⟩
    obtain h | h := h
    · exact Bool.noConfusion (hd.symm.trans h)
    · omega
  · by_cases hp : 0 < (s.core x).intPending
    · rw [State.advance, if_pos (interruptTakeable_iff.mpr ⟨h, hp⟩), modCore_core]
    · rw [State.advance, if_neg fun ht => hp (interruptTakeable_iff.mp ht).2]
      omega

/-! ## Segment registers (rules R37, R208, R384 and R389) -/

@[simp] theorem Core.setSegment_segment_same (c : Core) (r : SegReg) (v : Segment) : (c.setSegment r v).segment r = v := by
  cases r <;> rfl

theorem Core.setSegment_segment_other (c : Core) {r r' : SegReg} (v : Segment) (h : r' ≠ r) :
    (c.setSegment r v).segment r' = c.segment r' := by
  cases r <;> cases r' <;> first | rfl | exact absurd rfl h

@[simp] theorem Core.setSegment_draining (c : Core) (r : SegReg) (v : Segment) :
    (c.setSegment r v).draining = c.draining := by cases r <;> rfl

/-- An update of a segment register: a renaming where no renamed copy waits, a stall where one does. -/
theorem updateSegment_cases (s : State) (x : CoreId) (r : SegReg) :
    (((s.core x).segment r).renamed = true ∧ s.updateSegment x r = s.begin (.found x (.segmentStalled r))) ∨
    (((s.core x).segment r).renamed = false ∧ s.updateSegment x r = (s.modCore x fun c =>
      c.setSegment r { c.segment r with renamed := true }).begin (.found x (.segmentRenamed r))) := by
  cases h : ((s.core x).segment r).renamed <;> simp [State.updateSegment, h]

/-- An update touches no other segment register. -/
theorem updateSegment_other (s : State) (x : CoreId) {r r' : SegReg} (h : r' ≠ r) :
    ((s.updateSegment x r).core x).segment r' = (s.core x).segment r' := by
  obtain ⟨-, e⟩ | ⟨-, e⟩ := updateSegment_cases s x r <;> rw [e, begin_core]
  rw [modCore_core, Core.setSegment_segment_other _ _ h]

/-- Settles O50: an update by whether a copy is renamed, then retirement and the load operation. -/
theorem segmentRenamesStall : Obligations.SegmentRenamesStall := by
  intro s x r hx
  refine ⟨s.updateSegment x r, s.modCore x fun c => c.setSegment r { c.segment r with renamed := false },
    accept_about hx rfl rfl, accept_about hx rfl rfl, fun h => ?_, fun h => ?_, ?_, fun r' hr => ⟨?_, ?_⟩,
    fun v retires => ⟨_, accept_about hx rfl rfl, rfl, ?_⟩⟩
  · obtain ⟨h', -⟩ | ⟨-, e⟩ := updateSegment_cases s x r
    · exact Bool.noConfusion (h.symm.trans h')
    · rw [e, begin_core, modCore_core, Core.setSegment_segment_same]
      exact ⟨rfl, rfl, rfl⟩
  · obtain ⟨-, e⟩ | ⟨h', -⟩ := updateSegment_cases s x r
    · rw [e]
      exact ⟨rfl, rfl⟩
    · exact Bool.noConfusion (h.symm.trans h')
  · rw [modCore_core, Core.setSegment_segment_same]
  · exact updateSegment_other s x hr
  · rw [modCore_core, Core.setSegment_segment_other _ _ hr]
  · rw [State.advance, begin_core, modCore_core]
    cases retires
    · exact ⟨nofun, fun _ => rfl, rfl⟩
    · exact ⟨fun _ => ⟨Core.setSegment_segment_same .., fun r' hr => Core.setSegment_segment_other _ _ hr⟩, nofun,
        Core.setSegment_draining ..⟩

/-! ## First uses after the other kind (rules R324 and R374 to R376) -/

/-- An explicit use of ESP synchronises after an implicit one, and does nothing otherwise (rule R324). -/
theorem useEsp_cases (s : State) (x : CoreId) :
    ((s.core x).espImplicit = true ∧
      s.useEsp x = (s.modCore x fun c => { c with espImplicit := false }).begin (.found x .espSynch)) ∨
    ((s.core x).espImplicit = false ∧ s.useEsp x = s) := by
  cases h : (s.core x).espImplicit <;> simp [State.useEsp, h]

/-- After an explicit use of ESP there is none implicit since. -/
theorem useEsp_espImplicit (s : State) (x : CoreId) : ((s.useEsp x).core x).espImplicit = false := by
  obtain ⟨-, e⟩ | ⟨h, e⟩ := useEsp_cases s x <;> rw [e]
  · rw [begin_core, modCore_core]
  · exact h

theorem useEsp_again (s : State) (x : CoreId) : (s.useEsp x).useEsp x = s.useEsp x := by
  obtain ⟨h, -⟩ | ⟨-, e⟩ := useEsp_cases (s.useEsp x) x
  · exact Bool.noConfusion ((useEsp_espImplicit s x).symm.trans h)
  · exact e

theorem useEsp_params (s : State) (x : CoreId) : (s.useEsp x).params = s.params := by
  obtain ⟨-, e⟩ | ⟨-, e⟩ := useEsp_cases s x <;> rw [e]
  rw [begin_params, modCore_params]

/-- A floating-point or an MMX instruction counts as a transition by which kind was last, and becomes the last. -/
theorem advance_fpInst (s : State) (x : CoreId) : (s.advance (.fpInst x)).params = s.params ∧
    (s.advance (.fpInst x)).now = .found x (.fpInst ((s.core x).lastFpMmx = .mmx)) ∧
    ((s.advance (.fpInst x)).core x).lastFpMmx = .floatingPoint := by simp [State.advance]

theorem advance_mmxInst (s : State) (x : CoreId) : (s.advance (.mmxInst x)).params = s.params ∧
    (s.advance (.mmxInst x)).now = .found x (.mmxInst ((s.core x).lastFpMmx = .floatingPoint)) ∧
    ((s.advance (.mmxInst x)).core x).lastFpMmx = .mmx ∧
    ((s.advance (.mmxInst x)).core x).regs.mmxState = true := by simp [State.advance]

/-- Settles O51: each use is run after the one of the other kind, and once more after itself. -/
theorem firstUseAfterTheOtherKindCounts : Obligations.FirstUseAfterTheOtherKindCounts := by
  intro s x add hx
  refine ⟨?_, ?_, ?_, ?_⟩
  · let t := s.advance (.espImplicit x add)
    have ht : t.params = s.params := (begin_params ..).trans (modCore_params ..)
    have hu : (t.useEsp x).params = s.params := (useEsp_params t x).trans ht
    refine ⟨t, t.useEsp x, accept_about hx rfl rfl, rfl, accept_about (hasCore_of_params ht hx) rfl rfl, ?_, ?_⟩
    · obtain ⟨-, e⟩ | ⟨h, -⟩ := useEsp_cases t x
      · rw [e, begin_now]
      · simp [t, State.advance] at h
    · exact (accept_about (hasCore_of_params hu hx) rfl rfl).trans (congrArg Host.Outcome.next (useEsp_again t x))
  · obtain ⟨ht, -, hmmx, -⟩ := advance_mmxInst s x
    obtain ⟨hu, hnow, hfp⟩ := advance_fpInst (s.advance (.mmxInst x)) x
    refine ⟨_, _, _, accept_about hx rfl rfl, accept_about (hasCore_of_params ht hx) rfl rfl,
      accept_about (hasCore_of_params (hu.trans ht) hx) rfl rfl, ?_, ?_⟩
    · simp [hnow, hmmx]
    · obtain ⟨-, hagain, -⟩ := advance_fpInst ((s.advance (.mmxInst x)).advance (.fpInst x)) x
      simp [hagain, hfp]
  · obtain ⟨ht, -, hfp⟩ := advance_fpInst s x
    obtain ⟨hu, hnow, hmmx, hstate⟩ := advance_mmxInst (s.advance (.fpInst x)) x
    refine ⟨_, _, _, accept_about hx rfl rfl, accept_about (hasCore_of_params ht hx) rfl rfl,
      accept_about (hasCore_of_params (hu.trans ht) hx) rfl rfl, ?_, ?_, hstate⟩
    · simp [hnow, hfp]
    · obtain ⟨-, hagain, -⟩ := advance_mmxInst ((s.advance (.fpInst x)).advance (.mmxInst x)) x
      simp [hagain, hmmx]
  · exact ⟨_, accept_about hx rfl rfl, rfl, (begin_core ..).trans (modCore_core ..)⟩

/-! ## Assists and slow decoding (rules R120, R222, R299, R507 and R551) -/

theorem assistRequired_iff {daz ftz : Bool} {o : FpOp} : assistRequired daz ftz o = true ↔
    (o.x87 = false ∧ (o.denormalInput = true ∧ daz = false ∨ o.underflow = true ∧ ftz = false)) ∨
    (o.x87 = true ∧ (o.nanOrDenormalLoaded = true ∨ o.divideByZero = true ∨ o.underflow = true)) := by
  unfold assistRequired
  cases o.x87 <;> simp [or_assoc]

theorem Mode.slowAddressPrefix_iff {m : Mode} :
    m.slowAddressPrefix = true ↔ m ∈ [.real, .bigReal, .protected16, .protected32] := by
  cases m <;> simp [Mode.slowAddressPrefix]

theorem slowDecoderUsed_iff {m : Mode} {d : LengthDecode} : slowDecoderUsed m d = true ↔
    (d.prefix66 = true ∧ d.immediate = true) ∨
      (d.prefix67 = true ∧ d.modrm = true ∧ m ∈ [.real, .bigReal, .protected16, .protected32]) := by
  rw [slowDecoderUsed, Bool.or_eq_true, Bool.and_eq_true, Bool.and_eq_true, Bool.and_eq_true,
    Mode.slowAddressPrefix_iff, and_assoc]

/-- A cycle does to the cores what working off their stalls does, unless it is a reference cycle that has not been
earned: that is no cycle. -/
theorem tickClock_core {s : State} {k : Tick} (h : k = .ref → s.params.busCycles ≤ s.refCredit) (x : CoreId) :
    (s.tickClock k).core x = (s.workOff k).core x := by
  cases k with
  | core | bus => rfl
  | ref =>
    rw [tickClock_ref_earned (h rfl)]
    rfl

/-- A cycle of another clock than that of its stalls leaves a core as it is (D8). -/
theorem tickClock_core_of_ne {s : State} {k : Tick} {x : CoreId} (h : k ≠ unnamedTick s x) :
    (s.tickClock k).core x = s.core x := by
  by_cases hr : k = .ref → s.params.busCycles ≤ s.refCredit
  · rw [tickClock_core hr, workOff_core, if_neg h.symm]
  · obtain ⟨rfl, hearned⟩ := Classical.not_imp.mp hr
    rw [tickClock_ref_unearned (Nat.not_le.mp hearned)]

/-- Settles O56: the two conditions, and what they start running off. -/
theorem assistAndSlowDecoderCases : Obligations.AssistAndSlowDecoderCases := by
  refine ⟨fun daz ftz o => assistRequired_iff, fun s x o hx => ⟨_, accept_about hx rfl rfl, rfl, rfl, fun _ => rfl⟩,
    fun s x d hx => ⟨s.decodeLength x d, accept_about hx rfl rfl, fun h => ?_, fun h => ?_⟩, fun s t x k h => ?_⟩
  · rw [State.decodeLength, if_pos (slowDecoderUsed_iff.mpr h), modCore_core]
  · exact if_neg (mt slowDecoderUsed_iff.mp h)
  · obtain rfl : t = s.tickClock k := eq_advance_of_accept rfl h
    refine ⟨fun hk hr => ?_, tickClock_core_of_ne⟩
    rw [tickClock_core hr, workOff_core, if_pos hk.symm]
    rfl

/-! ## Register writes (rules R34 to R39, R76, R78 and R382) -/

/-- A write of a control register keeps the value, and flushes the ITLB or leaves it (rule R78). -/
theorem writeControl_effects (s : State) (x : CoreId) (toCr3 flushes : Bool) (v : Nat) :
    ((s.writeControl x toCr3 v flushes).core x).regs =
      (if toCr3 then { (s.core x).regs with cr3 := v } else { (s.core x).regs with cr0 := v }) ∧
    (flushes = true → ((s.writeControl x toCr3 v flushes).core x).tlb = { (s.core x).tlb with itlb := [] } ∧
      (s.writeControl x toCr3 v flushes).now = .found x .itlbFlush) ∧
    (flushes = false → ((s.writeControl x toCr3 v flushes).core x).tlb = (s.core x).tlb ∧
      (s.writeControl x toCr3 v flushes).now = s.now ∧ (s.writeControl x toCr3 v flushes).turn = s.turn) := by
  cases flushes <;> simp [State.writeControl, State.flushItlb]

/-- Where a micro-op retires, the address is that after the last instruction it completes (rule R35). -/
theorem retire_regs {s : State} {x : CoreId} {u : RetiredUop} (h : (s.core x).canRetire u) :
    ((s.retire x u).core x).regs =
      { (s.core x).regs with instAddr := u.nextAddr (s.core x).regs.instAddr } := by
  rw [retire_core (Core.holdsRetirement_eq_false.mpr h)]
  rfl

/-- A micro-op that completes no instruction leaves the registers, whether it retires or not. -/
theorem retire_regs_of_completes_nil (s : State) (x : CoreId) (f : Option Fusion) :
    ((s.retire x ⟨f, []⟩).core x).regs = (s.core x).regs := by
  by_cases h : (s.core x).canRetire ⟨f, []⟩
  · exact retire_regs h
  · rw [retire_of_not_canRetire h]

theorem RetiredUop.nextAddr_append_singleton (f : Option Fusion) (first : List RetiredInst) (last : RetiredInst) (a : Nat) :
    RetiredUop.nextAddr ⟨f, first ++ [last]⟩ a = last.next := by simp [RetiredUop.nextAddr]

/-- Settles O57: input by input, from what each writes. -/
theorem registerWritesAndFlush : Obligations.RegisterWritesAndFlush := by
  intro s x v hx
  refine ⟨fun toCr3 flushes => ?_, accept_about hx rfl rfl, ⟨_, accept_about hx rfl rfl, ?_⟩, accept_about hx rfl rfl,
    fun r t p q b => ⟨accept_about hx rfl rfl, accept_about hx rfl rfl, accept_about hx rfl rfl, accept_about hx rfl rfl,
      accept_package rfl rfl⟩, fun f first last => ?_⟩
  · obtain ⟨hregs, hflush, hleave⟩ := writeControl_effects s x toCr3 flushes v
    exact ⟨_, accept_about hx rfl rfl, fun h => hregs.trans (if_pos h),
      fun h => hregs.trans (if_neg (Bool.eq_false_iff.mp h)), hflush, hleave⟩
  · rw [State.advance, begin_core, modCore_core]
    exact ⟨rfl, rfl, rfl⟩
  · refine ⟨s.retire x _, s.retire x _, accept_about hx rfl rfl, accept_about hx rfl rfl,
      retire_regs_of_completes_nil s x f, fun h => ?_⟩
    obtain ⟨-, -, hnow⟩ := retire_bus_queue (Core.holdsRetirement_eq_false.mpr h)
    exact ⟨by rw [retire_regs h, RetiredUop.nextAddr_append_singleton], hnow⟩

end Sys2Proof.Machine
end

section
/-! Transactions that are held back, interrupts over the bus and the bus queue (O52); cache lines, write-backs, snoops and
prefetches (O48). -/

namespace Sys2Proof.Machine

/-! ## Submitting transactions (rules R81, R505 and R560) -/

theorem canSubmit_iff {s : State} {b : BusTrans} :
    s.canSubmit b = true ↔ s.bnrLeft = 0 ∧ (b.needsSnoop = true → s.snoopStallLeft = 0) := by
  cases h : b.needsSnoop <;> simp [State.canSubmit, h]

theorem submit_of_canSubmit {s : State} {b : BusTrans} (h : s.canSubmit b = true) :
    s.submit b = (s.followedBy (s.interruptBrought b)).begin (.sys (.busTrans b)) := if_pos h

theorem submit_held {s : State} {b : BusTrans} (h : ¬s.canSubmit b = true) :
    s.submit b = { s with heldBack := s.heldBack ++ [b] } := if_neg h

/-- An interrupt transaction brings its interrupt to the core it is for (rule R505). -/
theorem interruptBrought_of_interrupt {s : State} {b : BusTrans} {x : CoreId} (h : b.kind = .interrupt (some x))
    (hx : s.hasCore x = true) : s.interruptBrought b = [.interrupt x] := by simp [State.interruptBrought, h, hx]

/-- Any other transaction brings none. -/
theorem interruptBrought_eq_nil {s : State} {b : BusTrans}
    (h : ∀ x, b.kind = .interrupt (some x) → s.hasCore x = false) : s.interruptBrought b = [] := by
  unfold State.interruptBrought
  split
  · next x hk => exact if_neg (Bool.eq_false_iff.mp (h x hk))
  · rfl

/-! ## The bus queue (rules R40 (f), R243 and R290) -/

theorem Core.canQueue_iff {c : Core} {n : Nat} :
    c.canQueue n = true ↔ c.pipe.busQueueFull = false ∧ .line n ∉ c.busQueue := by simp [Core.canQueue]

theorem requestBus_queued {s : State} {x : CoreId} (r : L2Req) {n : Nat} (h : (s.core x).canQueue n = true) :
    s.requestBus x r n = s.modCore x fun c => { c with busQueue := c.busQueue ++ [.line n] } := if_pos h

theorem requestBus_delayed {s : State} {x : CoreId} (r : L2Req) {n : Nat} (h : ¬(s.core x).canQueue n = true) :
    s.requestBus x r n = s.begin (.found x (.l2Reject r (lineState s.l2 r.line))) := if_neg h

theorem Core.requestIo_queued {c : Core} (h : c.pipe.busQueueFull = false) :
    c.requestIo = { c with busQueue := c.busQueue ++ [.io] } := if_neg (Bool.eq_false_iff.mp h)

theorem Core.requestIo_full {c : Core} (h : c.pipe.busQueueFull = true) : c.requestIo = c := if_pos h

/-- Settles O52: what can be submitted follows from how long BNR and the snoop stall last, what moves to the bus queue
from its entries. -/
theorem heldBackTransactions : Obligations.HeldBackTransactions := by
  refine ⟨fun s a y b => ⟨?_, ?_, ?_, ?_⟩, fun s x r n e hx => ?_⟩
  · exact ⟨_, accept_package rfl rfl, rfl, rfl, canSubmit_eq_false.mpr (.inl (Nat.succ_ne_zero _))⟩
  · refine ⟨_, accept_package rfl rfl, rfl, rfl,
      fun h => canSubmit_eq_false.mpr (.inr ⟨h, Nat.succ_ne_zero _⟩), fun h => ?_⟩
    rw [Bool.eq_iff_iff, canSubmit_iff, canSubmit_iff]
    simp [State.advance, h]
  · refine ⟨s.submit b, accept_package rfl rfl, fun h => ?_, fun h => submit_held (mt canSubmit_iff.mp h)⟩
    rw [submit_of_canSubmit (canSubmit_iff.mpr h)]
    refine ⟨rfl, rfl, fun x hk hx => ?_, fun hn => ?_⟩
    · rw [begin_queue, followedBy_queue, interruptBrought_of_interrupt hk hx]
      rfl
    · rw [begin_queue, followedBy_queue, interruptBrought_eq_nil hn]
      rfl
  · exact ⟨s.tickClock .bus, _, accept_package rfl rfl, rfl, rfl, rfl, rfl, rfl⟩
  · refine ⟨s.requestBus x r n, s.modCore x (·.requestIo), _, accept_about hx rfl rfl, accept_about hx rfl rfl,
      accept_about hx rfl rfl, accept_about hx rfl rfl, fun h => requestBus_queued r (Core.canQueue_iff.mpr h),
      fun h => ?_, fun h => congrArg (s.setCore x) (Core.requestIo_queued h),
      fun h => modCore_eq_self (Core.requestIo_full h), rfl⟩
    have hq : ¬(s.core x).canQueue n = true := by
      rw [Core.canQueue_iff]
      rintro ⟨hfull, hset⟩
      exact h.elim (fun hf => Bool.noConfusion (hfull.symm.trans hf)) hset
    rw [requestBus_delayed r hq]
    exact ⟨begin_core .., rfl⟩

/-! ## Reading the line that was written (rule R41) -/

theorem lineState_cons (k : Nat) (v : LineState) (rest : LineMap) (n : Nat) :
    lineState ((k, v) :: rest) n = if n = k then v else lineState rest n := by
  by_cases h : n = k
  · simp [lineState, h]
  · simp [lineState, List.lookup_cons, h, beq_false_of_ne h]

/-- A line below all that are listed is in state I. -/
theorem lineState_eq_i {m : LineMap} {n : Nat} (h : ∀ e ∈ m, n < e.1) : lineState m n = .i := by
  induction m with
  | nil => rfl
  | cons a rest ih =>
    rw [lineState_cons, if_neg (h a List.mem_cons_self).ne]
    exact ih fun e he => h e (List.mem_cons_of_mem _ he)

/-- A line reads as the state it was put into. -/
theorem lineState_setLine_same {m : LineMap} (n : Nat) (st : LineState) (h : linesWf m = true) :
    lineState (setLine m n st) n = st := by
  induction m with
  | nil =>
    unfold setLine
    split
    · next hst => rw [hst]; rfl
    · rw [lineState_cons, if_pos rfl]
  | cons a rest ih =>
    obtain ⟨k, v⟩ := a
    obtain ⟨-, hrest, hw⟩ := (linesWf_cons k v rest).mp h
    unfold setLine
    split
    · next hlt =>
      split
      · next hst =>
        rw [hst, lineState_cons, if_neg hlt.ne]
        exact lineState_eq_i fun e he => Nat.lt_trans hlt (hrest e he)
      · rw [lineState_cons, if_pos rfl]
    · split
      · next hk =>
        split
        · next hst => rw [hst, lineState_eq_i (hk ▸ hrest)]
        · rw [lineState_cons, if_pos rfl]
      · next hk => rw [lineState_cons, if_neg hk, ih hw]

/-- Every other line reads as before. -/
theorem lineState_setLine_other (m : LineMap) {n k : Nat} (st : LineState) (h : k ≠ n) :
    lineState (setLine m n st) k = lineState m k := by
  induction m with
  | nil =>
    unfold setLine
    split
    · rfl
    · rw [lineState_cons, if_neg h]
  | cons a rest ih =>
    obtain ⟨j, v⟩ := a
    unfold setLine
    split
    · split
      · rfl
      · rw [lineState_cons, if_neg h]
    · split
      · next hj =>
        split <;> simp only [lineState_cons, if_neg h, if_neg (hj ▸ h)]
      · simp only [lineState_cons, ih]

theorem isModified_iff {m : LineMap} {n : Nat} : isModified m n = true ↔ lineState m n = .m := decide_eq_true_iff

theorem isModified_eq_false_iff {m : LineMap} {n : Nat} : isModified m n = false ↔ lineState m n ≠ .m :=
  decide_eq_false_iff_not

/-! ## Snoops for the other core (rules R79 and R285) -/

theorem afterCoreSnoop_m (k : SnoopKind) (after : Option LineState) : afterCoreSnoop k after .m = .m := by
  cases k <;> rfl

/-- A line that is not in M gets the state the input names. -/
theorem afterCoreSnoop_some (k : SnoopKind) (st : LineState) {old : LineState} (h : old ≠ .m) :
    afterCoreSnoop k (some st) old = st := by
  cases old
  case m => exact absurd rfl h
  all_goals cases k <;> rfl

/-- What a snoop typically does to a line that is not in M (rule R79). -/
theorem afterCoreSnoop_none (k : SnoopKind) (old : LineState) :
    (old = .e → k = .read → afterCoreSnoop k none old = .s) ∧
    (old ∈ [.e, .s] → k = .readForOwnership → afterCoreSnoop k none old = .i) ∧
    (old = .s → k = .read → afterCoreSnoop k none old = .s) ∧
    (old = .i → afterCoreSnoop k none old = .i) := by
  refine ⟨?_, fun h hk => ?_, ?_, ?_⟩
  · rintro rfl rfl; rfl
  · subst hk
    simp only [List.mem_cons, List.not_mem_nil, or_false] at h
    obtain rfl | rfl := h <;> rfl
  · rintro rfl rfl; rfl
  · rintro rfl
    cases k <;> rfl

theorem snoopCore_core (s : State) (x : CoreId) (line : Nat) (k : SnoopKind) (after : Option LineState) :
    (s.snoopCore x line k after).core x = { s.core x with
      portSnoops := (s.core x).portSnoops + 1
      l1d := setLine (s.core x).l1d line (afterCoreSnoop k after (lineState (s.core x).l1d line)) } := by
  rw [State.snoopCore, begin_core, modCore_core]

/-! ## Lines that leave a cache (rules R79, R235 and R274) -/

theorem evictL1d_core (s : State) (x : CoreId) (line : Nat) :
    (s.evictL1d x line).core x = { s.core x with l1d := setLine (s.core x).l1d line .i } := by
  rw [State.evictL1d, begin_core, followedBy_core, modCore_core]

theorem evictL1d_queue (s : State) (x : CoreId) (line : Nat) : (s.evictL1d x line).queue =
    (if isModified (s.core x).l1d line then [.writeBackToL2 x line] else []) ++ s.queue := by
  rw [State.evictL1d, begin_queue, followedBy_queue, modCore_queue]

theorem modifiedInL1d_iff {s : State} {line : Nat} :
    s.modifiedInL1d line = true ↔ ∃ y, s.hasCore y = true ∧ lineState (s.core y).l1d line = .m := by
  simp [State.modifiedInL1d, State.hasCore, isModified_iff]

/-- A modified line that no L1 data cache holds modified is written back to memory. -/
theorem evictL2_queue_of_modified {s : State} (x : CoreId) {line : Nat} (hw : Bool) (h : lineState s.l2 line = .m)
    (hc : ∀ y, s.hasCore y = true → lineState (s.core y).l1d line ≠ .m) : (s.evictL2 x line hw).queue =
      .busTrans ⟨.explicitWriteback, .thisProcessor, some x, true, s.unstated .writebackNeedsSnoop⟩ :: s.queue := by
  have hn : s.modifiedInL1d line = false := by
    rw [Bool.eq_false_iff, Ne, modifiedInL1d_iff]
    exact fun ⟨y, hy, hm⟩ => hc y hy hm
  simp [State.evictL2, isModified_iff.mpr h, hn]

/-- A line that is not modified, or is so in an L1 data cache, is not written back. -/
theorem evictL2_queue_of_not {s : State} (x : CoreId) {line : Nat} (hw : Bool)
    (h : lineState s.l2 line ≠ .m ∨ ∃ y, s.hasCore y = true ∧ lineState (s.core y).l1d line = .m) :
    (s.evictL2 x line hw).queue = s.queue := by
  obtain h | h := h
  · simp [State.evictL2, isModified_eq_false_iff.mpr h]
  · simp [State.evictL2, modifiedInL1d_iff.mpr h]

theorem evictL2_now (s : State) (x : CoreId) (line : Nat) (hw : Bool) :
    (s.evictL2 x line hw).now = .found x (.l2LineOut hw (isModified s.l2 line)) := rfl

/-! ## Lines that change their state alone (rule R41; log entry 12) -/

theorem setL1dState_of_evicted {s : State} (x : CoreId) {line : Nat} (h : lineState (s.core x).l1d line = .m) :
    s.setL1dState x line .i = s.evictL1d x line := by
  obtain ⟨-, -, e⟩ | ⟨hn, -⟩ := setL1dState_cases s x line .i
  · exact e
  · exact absurd hn (by simp [h])

theorem setL1dState_of_kept {s : State} {x : CoreId} {line : Nat} {st : LineState}
    (h : lineState (s.core x).l1d line ≠ .m ∨ st ≠ .i) :
    s.setL1dState x line st = s.modCore x fun c => { c with l1d := setLine c.l1d line st } := by
  obtain ⟨hst, hm, -⟩ | ⟨-, e⟩ := setL1dState_cases s x line st
  · exact absurd h (by simp [hst, hm])
  · exact e

theorem setL2State_of_kept {s : State} {line : Nat} {st : LineState} (h : lineState s.l2 line ≠ .m ∨ st ≠ .i) :
    s.setL2State line st = { s with l2 := setLine s.l2 line st } := by
  obtain ⟨hst, hm, -⟩ | ⟨-, e⟩ := setL2State_cases s line st
  · exact absurd h (by simp [hst, hm])
  · exact e

theorem setL2State_of_invalidated {s : State} {line : Nat} (h : lineState s.l2 line = .m) :
    s.setL2State line .i = { s with
      l2 := setLine s.l2 line .i
      queue := .busTrans ⟨.implicitWriteback, .thisProcessor, none, true, s.unstated .writebackNeedsSnoop⟩ ::
        s.queue } := by
  obtain ⟨-, -, e⟩ | ⟨hn, -⟩ := setL2State_cases s line .i
  · exact e
  · exact absurd hn (by simp [h])

/-! ## Prefetches (rules R80 and R265) -/

/-- Where the two lines of a load agree on whether they are prefetched, the load hits as they say. -/
theorem hitsPrefetch_eq {s : State} {x : CoreId} {b : Access} {hit : Bool}
    (hf : (s.core x).prefetches (lineOf s.params b.addr) = hit)
    (hl : (s.core x).prefetches (lineOf s.params b.lastByte) = hit) : s.hitsPrefetch x b = hit := by
  obtain ⟨-, e⟩ | ⟨hn, -⟩ := hitsPrefetch_cases s x b
  · rw [e, hf]
  · exact absurd (hf.trans hl.symm) hn

/-- A load is sent while execution goes on. -/
theorem sendLoad_now {s : State} {x : CoreId} {b : Access} (h : (s.core x).draining = none) :
    (s.sendLoad x b).now = .found x (.loadSent (s.hitsPrefetch x b)) := by
  obtain ⟨hheld, -⟩ | ⟨-, e⟩ := sendLoad_cases s x b
  · exact Bool.noConfusion (hheld.symm.trans (Core.executionHeld_eq_false.mpr h))
  · rw [e, begin_now]

theorem mem_fillL1d {s : State} {x : CoreId} {line : Nat} {st : LineState} {i : Input} :
    i ∈ s.fillL1d x line st ↔ lineState (s.core x).l1d line = .i ∧ i = .l1dLineIn x line st := by
  unfold State.fillL1d
  split <;> simp [*]

theorem mem_fillL2 {s : State} {x : CoreId} {line : Nat} {st : LineState} {hw : Bool} {i : Input} :
    i ∈ s.fillL2 x line st hw ↔ lineState s.l2 line = .i ∧ i = .l2LineIn x line st hw := by
  unfold State.fillL2
  split <;> simp [*]

/-- Which lines a software prefetch brings in: prefetchNTA and prefetchT0 one of the L1 data cache, all but prefetchNTA
one of the L2 cache, where it is missing there (rule R80). -/
theorem mem_prefetchFills {s : State} {x : CoreId} {k : SsePrefetch} {line : Nat} {st : LineState} {i : Input} :
    i ∈ s.prefetchFills x k line st ↔
      (k ∈ [.nta, .t0] ∧ lineState (s.core x).l1d line = .i ∧ i = .l1dLineIn x line st) ∨
      (k ∈ [.t0, .t1, .t2] ∧ lineState s.l2 line = .i ∧ i = .l2LineIn x line st false) := by
  cases k <;> simp [State.prefetchFills, mem_fillL1d, mem_fillL2, or_comm]

/-- The start of a software prefetch. -/
def State.startPrefetch (s : State) (x : CoreId) (k : SsePrefetch) (line : Nat) : State :=
  s.modCore x fun c => { c with prefetching := (k, line) :: c.prefetching }

theorem startPrefetch_core (s : State) (x : CoreId) (k : SsePrefetch) (line : Nat) :
    (s.startPrefetch x k line).core x = { s.core x with prefetching := (k, line) :: (s.core x).prefetching } :=
  modCore_core ..

theorem startPrefetch_params (s : State) (x : CoreId) (k : SsePrefetch) (line : Nat) :
    (s.startPrefetch x k line).params = s.params := modCore_params ..

/-- A line is being prefetched after the start where it is the line of this prefetch or was being prefetched before. -/
theorem startPrefetch_prefetches (s : State) (x : CoreId) (k : SsePrefetch) (line n : Nat) :
    ((s.startPrefetch x k line).core x).prefetches n = (decide (line = n) || (s.core x).prefetches n) := by
  rw [startPrefetch_core, Core.prefetches, List.any_cons, Core.prefetches]

/-- A prefetch that has just started ends by bringing in its lines, and those in flight before are in flight still. -/
theorem endPrefetch_startPrefetch (s : State) (x : CoreId) (k : SsePrefetch) (a : Nat) (st : LineState) :
    let t := s.startPrefetch x k (lineOf s.params a)
    ((t.endPrefetch x k a st).core x).prefetching = (s.core x).prefetching ∧
    ∀ i, i ∈ (t.endPrefetch x k a st).queue ↔ i ∈ s.queue ∨
      (k ∈ [.nta, .t0] ∧ lineState (s.core x).l1d (lineOf s.params a) = .i ∧
        i = .l1dLineIn x (lineOf s.params a) st) ∨
      (k ∈ [.t0, .t1, .t2] ∧ lineState s.l2 (lineOf s.params a) = .i ∧
        i = .l2LineIn x (lineOf s.params a) st false) := by
  intro t
  have hc : t.core x = { s.core x with prefetching := (k, lineOf s.params a) :: (s.core x).prefetching } :=
    startPrefetch_core ..
  have hp : t.params = s.params := startPrefetch_params ..
  have hl2 : t.l2 = s.l2 := modCore_l2 ..
  have hq : t.queue = s.queue := modCore_queue ..
  have hmem : (t.core x).prefetching.contains (k, lineOf s.params a) = true := by simp [hc]
  have e : t.endPrefetch x k a st = (t.modCore x fun c =>
      { c with prefetching := c.prefetching.erase (k, lineOf s.params a) }).followedBy
        (t.prefetchFills x k (lineOf s.params a) st) := by
    simp only [State.endPrefetch, hp, hmem, if_true]
  rw [e]
  refine ⟨?_, fun i => ?_⟩
  · rw [followedBy_core, modCore_core, hc]
    exact List.erase_cons_head ..
  · rw [followedBy_queue, modCore_queue, List.mem_append, mem_prefetchFills, hq, hl2, hc, or_comm]

/-! ## The clauses of O48 -/

/-- Rules R79 and R285: a snoop uses the store port and changes the snooped line alone, as `afterCoreSnoop` says. -/
theorem accept_coreSnoop {s : State} {x : CoreId} (line : Nat) (k : SnoopKind) (after : Option LineState)
    (hx : s.hasCore x = true) (hw : linesWf (s.core x).l1d = true) :
    ∃ t, s.accept (.coreSnoop x line k after) = .next t ∧ t.now = .found x (.coreSnoop k) ∧
      (t.core x).portSnoops = (s.core x).portSnoops + 1 ∧
      (∀ n, n ≠ line → lineState (t.core x).l1d n = lineState (s.core x).l1d n) ∧
      lineState (t.core x).l1d line = afterCoreSnoop k after (lineState (s.core x).l1d line) := by
  refine ⟨s.snoopCore x line k after, accept_about hx rfl rfl, rfl, ?_⟩
  rw [snoopCore_core]
  exact ⟨rfl, fun n hn => lineState_setLine_other _ _ hn, lineState_setLine_same _ _ hw⟩

/-- Settles O48: line by line of the caches, from what each input does to them. -/
theorem lineStatesAndSnoops : Obligations.LineStatesAndSnoops := by
  refine ⟨fun m n st hw => ⟨setLine_wf m n st hw, lineState_setLine_same n st hw,
    fun k hk => lineState_setLine_other m st hk⟩, fun s x line k after hx hw => ?_, fun s x a r line st hw hx => ?_,
    fun s x k a b d st hx => ?_⟩
  -- a snoop for the other core
  · obtain ⟨t, ht, hnow, hport, hother, hline⟩ := accept_coreSnoop line k after hx hw
    refine ⟨t, ht, hnow, hport, hother, fun h => ?_, fun st hst h => ?_, fun hn => ?_⟩
    · rw [hline, h, afterCoreSnoop_m]
    · rw [hline, hst, afterCoreSnoop_some k st h]
    · rw [hline, hn]
      exact afterCoreSnoop_none k _
  · refine ⟨?_, ?_, ?_, ⟨fun h hst => ?_, fun h => ?_, fun h => ?_, fun h hst => ?_, accept_about hx rfl rfl⟩, ?_⟩
    -- a reference and a request of the L2 cache
    · refine ⟨s.makeRetiredRef x a, _, accept_retiredRef hx a, ?_, fun h => ?_, accept_about hx rfl rfl, rfl,
        fun _ => rfl, rfl⟩
      · obtain ⟨-, e⟩ | ⟨-, e⟩ := makeRetiredRef_cases s x a <;> rw [e]
        exact performRef_core ..
      · rw [makeRetiredRef_free (Bool.eq_false_iff.mp h)]
        rfl
    -- lines brought in
    · refine ⟨_, _, accept_about hx rfl rfl, ?_, ?_, ?_, accept_about hx rfl rfl, rfl, rfl⟩
      · rw [State.advance, begin_core, modCore_core]
      · simp [State.advance]
      · simp [State.advance]
    -- a line evicted from the L1 data cache, and a write-back
    · refine ⟨s.evictL1d x line, s.writeBack x line, accept_about hx rfl rfl, ?_, fun h => ⟨?_, ?_⟩, fun h => ⟨?_, ?_⟩,
        accept_about hx rfl rfl, rfl, rfl⟩
      · rw [evictL1d_core]
      · rw [State.evictL1d, begin_now, isModified_iff.mpr h]
      · rw [evictL1d_queue, if_pos (isModified_iff.mpr h)]
        rfl
      · rw [State.evictL1d, begin_now, isModified_eq_false_iff.mpr h]
      · rw [evictL1d_queue, if_neg (mt isModified_iff.mp h)]
        rfl
    -- lines that get another state
    · subst hst
      have e : s.advance (.l1dLineState x line .i) = s.advance (.l1dLineOut x line) := setL1dState_of_evicted x h
      exact ((accept_about hx rfl rfl).trans (congrArg Host.Outcome.next e)).trans (accept_about hx rfl rfl).symm
    · exact (accept_about hx rfl rfl).trans (congrArg Host.Outcome.next (setL1dState_of_kept h))
    · exact (accept_package rfl rfl).trans (congrArg Host.Outcome.next (setL2State_of_kept h))
    · subst hst
      exact ⟨_, rfl, rfl, rfl, rfl, (accept_package rfl rfl).trans
        (congrArg Host.Outcome.next (setL2State_of_invalidated h))⟩
    -- a line evicted from the L2 cache
    · refine ⟨s.evictL2 x line hw, accept_about hx rfl rfl, rfl, fun h => ?_, fun h => ?_, fun h hc => ?_,
        evictL2_queue_of_not x hw⟩
      · rw [evictL2_now, isModified_iff.mpr h]
      · rw [evictL2_now, isModified_eq_false_iff.mpr h]
      · exact ⟨_, evictL2_queue_of_modified x hw h hc, rfl, rfl, rfl⟩
  -- prefetches
  · have hp := startPrefetch_params s x k (lineOf s.params a)
    have ht := hasCore_of_params hp hx
    have hdrain : ((s.startPrefetch x k (lineOf s.params a)).core x).draining = (s.core x).draining := by
      rw [startPrefetch_core]
    obtain ⟨hkeep, hqueue⟩ := endPrefetch_startPrefetch s x k a st
    refine ⟨s.startPrefetch x k (lineOf s.params a), _, accept_about hx rfl rfl,
      fun l => ⟨_, accept_about ht rfl rfl, fun hd hf hl => ?_, fun hd he hf hl => ?_, fun hd => ?_⟩, ?_,
      accept_about ht rfl rfl, hkeep, hqueue, _, accept_about hx rfl rfl, rfl, fun h => ?_, fun h => ?_⟩
    · refine (sendLoad_now (hdrain.trans hd)).trans (congrArg _ (congrArg _ (hitsPrefetch_eq ?_ ?_))) <;>
        rw [startPrefetch_prefetches, hp]
      · simp [lineOf, hf]
      · simp [lineOf, Access.lastByte, hl]
    · refine (sendLoad_now (hdrain.trans hd)).trans (congrArg _ (congrArg _ (hitsPrefetch_eq ?_ ?_))) <;>
        rw [startPrefetch_prefetches, hp]
      · simp [lineOf, hf, Core.prefetches, he]
      · simp [lineOf, Access.lastByte, hl, Core.prefetches, he]
    · exact sendLoad_held l (hdrain ▸ hd)
    · rw [startPrefetch_core]
      exact List.subset_cons_self ..
    · simp [State.advance, State.prefetchByDpl, State.fillL2, h]
    · simp [State.advance, State.prefetchByDpl, State.fillL2, h]

end Sys2Proof.Machine
end

section
/-! What an event counts, from its meaning: an amount that is 1 where a condition on the moment holds and 0 where it does
not. With it, the events of 21H to 3CH (O4). -/

namespace Sys2Proof.Machine

/-! ## Amounts that say whether a condition holds -/

/-- The amount is 1 where the condition holds, and 0 where it does not. -/
def Indicates (n : Nat) (p : Prop) : Prop := (p → n = 1) ∧ (¬p → n = 0)

theorem indicates_toNat {b : Bool} {p : Prop} (h : b = true ↔ p) : Indicates b.toNat p :=
  ⟨fun hp => by rw [h.mpr hp]; rfl, fun hp => by rw [Bool.eq_false_iff.mpr (mt h.mp hp)]; rfl⟩

theorem indicates_zero {p : Prop} (h : ¬p) : Indicates 0 p := ⟨fun hp => absurd hp h, fun _ => rfl⟩

theorem indicates_one {p : Prop} (h : p) : Indicates 1 p := ⟨fun _ => rfl, fun hp => absurd h hp⟩

theorem Indicates.congr {n : Nat} {p q : Prop} (h : Indicates n p) (e : p ↔ q) : Indicates n q :=
  ⟨fun hq => h.1 (e.mpr hq), fun hq => h.2 (mt e.mp hq)⟩

/-- A row without qualifiers counts each moment of which its amount says that the condition holds. -/
theorem countsEach_of_indicates {i : Instr} {p : State → CoreId → Moment → Prop} {w : State → CoreId → Nat}
    (he : ∀ s, exec i s = countGp s (w s)) (h : ∀ s x, Indicates (w s x) (p s x s.now)) : CountsEach i p := by
  intro s x k rest ht
  rw [he s, countGp_served s (w s) ht]
  exact ⟨fun hp => by rw [(h s x).1 hp], fun hp => by rw [(h s x).2 hp, addTo_zero]⟩

/-- A composed row counts, under a unit mask that its tables accept, each moment of which its amount says that the
condition holds (rules R105 and R114). -/
theorem countsEachQualified_of_indicates {i : Byte → Instr} {p : State → Settings → CoreId → Moment → Prop}
    {w : State → Settings → CoreId → Nat} (he : ∀ u s, exec (i u) s = countQualified s (i u).qualifiers u (w s))
    (h : ∀ s q x, Indicates (w s q x) (p s q x s.now)) : CountsEachQualified i p := by
  intro s x k rest u ht
  rw [he u s]
  refine ⟨fun q hq => ?_, fun hq => countQualified_unlisted s _ u (w s) hq⟩
  rw [countQualified_served s _ u (w s) ht hq]
  exact ⟨fun hp => by rw [(h s q x).1 hp], fun hp => by rw [(h s q x).2 hp, addTo_zero]⟩

/-! ## Amounts of cycles (rule R14) -/

theorem indicates_ite {c p : Prop} [Decidable c] {n : Nat} (h : Indicates n p) :
    Indicates (if c then n else 0) (c ∧ p) := by
  split
  · next hc => exact h.congr (by simp [hc])
  · next hc => exact indicates_zero fun hcp => hc hcp.1

theorem indicates_onCoreCycle {s : State} {x : CoreId} {n : Nat} {p : Prop} (h : Indicates n p) :
    Indicates (s.onCoreCycle x n) (s.now = .tick (.core x) ∧ p) := indicates_ite h

theorem indicates_onBusCycle {s : State} {n : Nat} {p : Prop} (h : Indicates n p) :
    Indicates (s.onBusCycle n) (s.now = .tick .bus ∧ p) := indicates_ite h

theorem indicates_onRefCycle {s : State} {n : Nat} {p : Prop} (h : Indicates n p) :
    Indicates (s.onRefCycle n) (s.now = .tick .ref ∧ p) := indicates_ite h

/-- A row that names no clock counts at the cycles of UNNAMED_CYCLE_CLOCK (rule R14 (d), D8). -/
theorem indicates_onCycle {s : State} {x : CoreId} {n : Nat} {p : Prop} (h : Indicates n p) :
    Indicates (s.onCycle x n) (atCycle s x s.now ∧ p) := by
  unfold State.onCycle atCycle unnamedTick
  cases s.params.unnamedClock
  exacts [indicates_onCoreCycle h, indicates_onBusCycle h, indicates_onRefCycle h]

/-! ## Amounts of occurrences (rule R12) -/

/-- An event that counts what the state made of an input, in whichever core. -/
theorem indicates_onFoundIn {s : State} {w : CoreId → Found → Nat} {p : Prop}
    (h : ∀ y f, s.now = .found y f → Indicates (w y f) p) (hp : p → ∃ y f, s.now = .found y f) :
    Indicates (s.onFoundIn w) p := by
  unfold State.onFoundIn
  split
  · next y f hm => exact h y f hm
  · next hn =>
    refine indicates_zero fun hq => ?_
    obtain ⟨y, f, hm⟩ := hp hq
    exact hn y f hm

/-- An event that counts what the state made of an input in its own core. -/
theorem indicates_onFound {s : State} {x : CoreId} {w : Found → Nat} {p : Prop}
    (h : ∀ f, s.now = .found x f → Indicates (w f) p) (hp : p → ∃ f, s.now = .found x f) :
    Indicates (s.onFound x w) p := by
  unfold State.onFound
  split
  · next y f hm =>
    split
    · next hy => exact h f (hy ▸ hm)
    · next hy =>
      refine indicates_zero fun hq => ?_
      obtain ⟨g, hg⟩ := hp hq
      exact hy (Moment.found.inj (hm.symm.trans hg)).1
  · next hn =>
    refine indicates_zero fun hq => ?_
    obtain ⟨f, hm⟩ := hp hq
    exact hn x f hm

/-- An event that counts occurrences of the package or the bus. -/
theorem indicates_onSys {s : State} {w : SysOcc → Nat} {p : Prop}
    (h : ∀ o, s.now = .sys o → Indicates (w o) p) (hp : p → ∃ o, s.now = .sys o) : Indicates (s.onSys w) p := by
  unfold State.onSys
  split
  · next o hm => exact h o hm
  · next hn =>
    refine indicates_zero fun hq => ?_
    obtain ⟨o, hm⟩ := hp hq
    exact hn o hm

/-! ## The L2 cache (rules R232 to R244) -/

/-- The rows of L2 requests share the selection of the core and of the line state. -/
theorem indicates_onL2Request {s : State} {q : Settings} {x : CoreId} {c : L2Req → Bool → Bool}
    {p : L2Req → Bool → Prop} (h : ∀ r missed, c r missed = true ↔ p r missed) :
    Indicates (s.onL2Request q x c) (∃ y r missed st, s.now = .found y (.l2Request r missed st) ∧
      q.coreSel x y = true ∧ q.mesiSel st = true ∧ p r missed) := by
  refine indicates_onFoundIn (fun y f hm => ?_) fun ⟨y, r, missed, st, hm, _⟩ => ⟨y, _, hm⟩
  rw [hm]
  split
  · exact indicates_toNat (by simp [h, and_assoc])
  · next hn => exact indicates_zero fun ⟨_, _, _, _, e, _⟩ => hn _ _ _ (Moment.found.inj e).2

/-- A row that counts L2 requests of a selected core in a selected line state, by a condition of its own on them. -/
theorem countsL2Requests {i : Byte → Instr} {c : State → Settings → L2Req → Bool → Bool}
    {p : State → Settings → L2Req → Bool → Prop}
    (he : ∀ u s, exec (i u) s = countQualified s (i u).qualifiers u fun q x => s.onL2Request q x (c s q))
    (h : ∀ s q r missed, c s q r missed = true ↔ p s q r missed) : CountsEachQualified i fun s q x m =>
      ∃ y r missed st, m = .found y (.l2Request r missed st) ∧ q.coreSel x y = true ∧ q.mesiSel st = true ∧
        p s q r missed :=
  countsEachQualified_of_indicates he fun s q _ => indicates_onL2Request (h s q)

/-- Completed demand requests of the core itself (rules R241 and R242). -/
theorem indicates_demandRequests {s : State} {x : CoreId} {c : LineState → Bool} {p : LineState → Prop}
    (h : ∀ st, c st = true ↔ p st) :
    Indicates (s.demandRequests x c) (∃ r missed st, s.now = .found x (.l2Request r missed st) ∧ p st ∧
      r.completed = true ∧ r.kind ≠ .hwPrefetch ∧ s.isL2Rqst r.kind = true) := by
  refine indicates_onFound (fun f hm => ?_) fun ⟨r, missed, st, hm, _⟩ => ⟨_, hm⟩
  rw [hm]
  split
  · next r missed st =>
    refine indicates_toNat ?_
    simp only [Bool.and_eq_true, Bool.not_eq_true', L2Req.hwPrefetch, decide_eq_false_iff_not, h]
    constructor
    · rintro ⟨⟨⟨hcompleted, hdemand⟩, hkind⟩, hst⟩
      exact ⟨r, missed, st, rfl, hst, hcompleted, hdemand, hkind⟩
    · rintro ⟨r, missed, st, e, hst, hcompleted, hdemand, hkind⟩
      cases e
      exact ⟨⟨⟨hcompleted, hdemand⟩, hkind⟩, hst⟩
  · next hn => exact indicates_zero fun ⟨_, _, _, e, _⟩ => hn _ _ _ (Moment.found.inj e).2

theorem l2LinesIn_counts : CountsEachQualified .l2LinesIn fun _ q x m =>
    ∃ y hw, m = .found y (.l2LineIn hw) ∧ q.coreSel x y = true ∧ q.pfSel hw = true := by
  refine countsEachQualified_of_indicates (fun _ _ => rfl) fun s q x =>
    indicates_onFoundIn (fun y f hm => ?_) fun ⟨y, hw, hm, _⟩ => ⟨y, _, hm⟩
  rw [hm]
  split
  · exact indicates_toNat (by simp [-Bool.exists_bool])
  · next hn => exact indicates_zero fun ⟨_, _, e, _⟩ => hn _ (Moment.found.inj e).2

theorem l2MLinesIn_counts : CountsEachQualified .l2MLinesIn fun _ q x m =>
    ∃ y, m = .found y .modifiedLineToL2 ∧ q.coreSel x y = true := by
  refine countsEachQualified_of_indicates (fun _ _ => rfl) fun s q x =>
    indicates_onFoundIn (fun y f hm => ?_) fun ⟨y, hm, _⟩ => ⟨y, _, hm⟩
  rw [hm]
  split
  · exact indicates_toNat (by simp)
  · next hn => exact indicates_zero fun ⟨_, e, _⟩ => hn (Moment.found.inj e).2

theorem l2LinesOut_counts : CountsEachQualified .l2LinesOut fun _ q x m =>
    ∃ y hw modified, m = .found y (.l2LineOut hw modified) ∧ q.coreSel x y = true ∧ q.pfSel hw = true := by
  refine countsEachQualified_of_indicates (fun _ _ => rfl) fun s q x =>
    indicates_onFoundIn (fun y f hm => ?_) fun ⟨y, hw, modified, hm, _⟩ => ⟨y, _, hm⟩
  rw [hm]
  split
  · exact indicates_toNat (by simp [-Bool.exists_bool])
  · next hn => exact indicates_zero fun ⟨_, _, _, e, _⟩ => hn _ _ (Moment.found.inj e).2

theorem l2MLinesOut_counts : CountsEachQualified .l2MLinesOut fun _ q x m =>
    ∃ y hw, m = .found y (.l2LineOut hw true) ∧ q.coreSel x y = true ∧ q.pfSel hw = true := by
  refine countsEachQualified_of_indicates (fun _ _ => rfl) fun s q x =>
    indicates_onFoundIn (fun y f hm => ?_) fun ⟨y, hw, hm, _⟩ => ⟨y, _, hm⟩
  rw [hm]
  split
  · exact indicates_toNat (by simp [and_assoc])
  · next hn => exact indicates_zero fun ⟨_, _, e, _⟩ => hn _ _ (Moment.found.inj e).2

theorem l2RejectBusq_counts : CountsEachQualified .l2RejectBusq fun _ q x m =>
    ∃ y r st, m = .found y (.l2Reject r st) ∧ q.coreSel x y = true ∧ q.mesiSel st = true ∧
      q.pfSel r.hwPrefetch = true := by
  refine countsEachQualified_of_indicates (fun _ _ => rfl) fun s q x =>
    indicates_onFoundIn (fun y f hm => ?_) fun ⟨y, r, st, hm, _⟩ => ⟨y, _, hm⟩
  rw [hm]
  split
  · exact indicates_toNat (by simp [and_assoc, and_comm, and_left_comm])
  · next hn => exact indicates_zero fun ⟨_, _, _, e, _⟩ => hn _ _ (Moment.found.inj e).2

theorem eistTrans_counts : CountsEach .eistTrans fun _ x m => m = .found x (.transition true) := by
  refine countsEach_of_indicates (fun _ => rfl) fun s x => indicates_onFound (fun f hm => ?_) fun hm => ⟨_, hm⟩
  rw [hm]
  split
  · exact indicates_toNat (by simp)
  · next hn => exact indicates_zero fun e => hn _ (Moment.found.inj e).2

theorem thermalTrip_counts : CountsEach .thermalTrip fun _ _ m => m = .sys .thermalTrip := by
  refine countsEach_of_indicates (fun _ => rfl) fun s _ => indicates_onSys (fun o hm => ?_) fun hm => ⟨_, hm⟩
  rw [hm]
  split
  · exact indicates_one rfl
  · next hn => exact indicates_zero fun e => hn (Moment.sys.inj e)

/-- On a processor with one core the source does not say whether another is halted (rule R249; log entry 5). -/
theorem otherHalted_iff {s : State} {x : CoreId} : s.otherHalted x = true ↔
    if s.params.nCores = 1 then s.unstated .noOtherCore = true else (s.core x.other).halted = true := by
  unfold State.otherHalted
  split <;> rfl

/-- Settles O4: each row from what its amount says of the moment. -/
theorem l2AndClockEventsCount : Obligations.L2AndClockEventsCount := by
  refine ⟨?_, ?_, l2LinesIn_counts, l2MLinesIn_counts, l2LinesOut_counts, l2MLinesOut_counts, ?_, ?_, ?_, ?_, ?_,
    l2RejectBusq_counts, ?_, ?_, ?_, eistTrans_counts, thermalTrip_counts, ?_, ?_, ?_⟩
  -- cycles in which a selected core uses the buses of the L2 cache
  · exact countsEachQualified_of_indicates (fun _ _ => rfl) fun s q x =>
      indicates_onCycle (indicates_toNat List.any_eq_true)
  · exact countsEachQualified_of_indicates (fun _ _ => rfl) fun s q x =>
      indicates_onCycle (indicates_toNat List.any_eq_true)
  -- requests: fetches, reads, stores, locked accesses, and all that complete
  · exact countsL2Requests (fun _ _ => rfl) fun s q r missed => by simp
  · exact countsL2Requests (fun _ _ => rfl) fun s q r missed => by simp
  · exact countsL2Requests (fun _ _ => rfl) fun s q r missed => by simp
  · exact countsL2Requests (fun _ _ => rfl) fun s q r missed => by simp
  · exact countsL2Requests (fun _ _ => rfl) fun s q r missed => by simp [and_assoc]
  -- cycles in which no request is pending
  · exact countsEachQualified_of_indicates (fun _ _ => rfl) fun s q x =>
      indicates_onCycle (indicates_toNat (by simp only [List.all_eq_true, l2Idle_iff, haltedAlone_iff]))
  -- demand requests of the core itself
  · exact countsEach_of_indicates (fun _ => rfl) fun s x =>
      (indicates_demandRequests fun _ => decide_eq_true_iff).congr (by simp)
  · exact countsEach_of_indicates (fun _ => rfl) fun s x =>
      (indicates_demandRequests fun _ => iff_true_intro rfl).congr (by simp)
  -- unhalted cycles
  · exact countsEach_of_indicates (fun _ => rfl) fun s x => indicates_onCoreCycle (indicates_toNat (by simp))
  · exact countsEach_of_indicates (fun _ => rfl) fun s x => indicates_onBusCycle (indicates_toNat (by simp))
  · exact countsEach_of_indicates (fun _ => rfl) fun s x =>
      indicates_onBusCycle (indicates_toNat (by rw [Bool.and_eq_true, otherHalted_iff, Bool.not_eq_true']))

end Sys2Proof.Machine
end

section
/-! What the bus transaction events (O7) and the events of 03H to 19H (O3) count, from what their amounts say of the
moment; lookups of the DTLB and the ITLB (O55); locks and page walks (O53). -/

namespace Sys2Proof.Machine

/-! ## Bus transactions (rules R272 to R283) -/

/-- The rows of bus transactions share the selection of the core and of the agent; each has a condition of its own on
the transaction. -/
theorem countsBusTrans {i : Byte → Instr} {c : State → BusTrans → Bool} {p : State → BusTrans → Prop}
    (he : ∀ u s, exec (i u) s = countQualified s (i u).qualifiers u fun q x => s.onBusTrans q x (c s))
    (h : ∀ s t, c s t = true ↔ p s t) : CountsEachQualified i fun s q x m =>
      ∃ t, m = .sys (.busTrans t) ∧ s.busSel q x t.agent t.core = true ∧ p s t := by
  refine countsEachQualified_of_indicates he fun s q x =>
    indicates_onSys (fun o hm => ?_) fun ⟨t, hm, _⟩ => ⟨_, hm⟩
  rw [hm]
  split
  · exact indicates_toNat (by simp [h])
  · next hn => exact indicates_zero fun ⟨t, e, _⟩ => hn t (Moment.sys.inj e)

theorem BusKind.isBurstRead_iff {k : BusKind} : k.isBurstRead = true ↔ ∃ r, k = .burstRead r := by
  cases k <;> simp [BusKind.isBurstRead]

theorem BusKind.isPartial_iff {k : BusKind} : k.isPartial = true ↔ k = .partialRead ∨ k = .partialWrite := by
  simp [BusKind.isPartial]

/-- Settles O7: each row by the kinds of transaction it selects. -/
theorem busTransactionEventsCount : Obligations.BusTransactionEventsCount := by
  refine ⟨?_, ?_, ?_, ?_, ?_, ?_, ?_, ?_, ?_, ?_, ?_, ?_⟩
  -- burst reads, then single kinds
  · exact countsBusTrans (fun _ _ => rfl) fun _ _ => BusKind.isBurstRead_iff
  · exact countsBusTrans (fun _ _ => rfl) fun _ _ => decide_eq_true_iff
  · exact countsBusTrans (fun _ _ => rfl) fun _ _ => decide_eq_true_iff
  · exact countsBusTrans (fun _ _ => rfl) fun _ _ => decide_eq_true_iff
  · exact countsBusTrans (fun _ _ => rfl) fun _ _ => decide_eq_true_iff
  · exact countsBusTrans (fun _ _ => rfl) fun _ _ => decide_eq_true_iff
  -- partial, completed I/O and deferred transactions
  · exact countsBusTrans (fun _ _ => rfl) fun _ _ => BusKind.isPartial_iff
  · exact countsBusTrans (fun _ _ => rfl) fun _ _ => by rw [Bool.and_eq_true, decide_eq_true_iff]
  · exact countsBusTrans (fun _ _ => rfl) fun _ _ => decide_eq_true_iff
  -- bursts, memory transactions, and all
  · exact countsBusTrans (fun _ _ => rfl) fun _ _ => Iff.rfl
  · exact countsBusTrans (fun _ _ => rfl) fun _ _ => by
      rw [Bool.or_eq_true, Bool.or_eq_true, BusKind.isPartial_iff, decide_eq_true_iff, or_assoc, or_assoc]
  · exact countsBusTrans (fun _ _ => rfl) fun _ _ => iff_true_intro rfl

/-! ## Rows of occurrences in a core (rule R12) -/

/-- A row that counts occurrences in its own core which are what they are whatever the state says. -/
theorem countsEach_of_occ {i : Instr} {p : State → CoreId → Moment → Prop} {w : State → CoreId → Occ → Nat}
    (he : ∀ s, exec i s = countGp s fun x => s.onOcc x (w s x)) (hp : ∀ s x m, p s x m → ∃ o, m = .occ x o)
    (h : ∀ s x o, Indicates (w s x o) (p s x (.occ x o))) : CountsEach i p := by
  refine countsEach_of_indicates he fun s x => ?_
  unfold State.onOcc
  split
  · next y o hm =>
    rw [hm]
    split
    · next hy => exact hy ▸ h s y o
    · next hy => exact indicates_zero fun hq => hy (Moment.occ.inj (hp s x _ hq).choose_spec).1
  · next hn => exact indicates_zero fun hq => hn x _ (hp s x _ hq).choose_spec

/-- A row that counts one occurrence. -/
theorem countsEach_of_occ_eq {i : Instr} {o : Occ} {w : Occ → Nat}
    (he : ∀ s, exec i s = countGp s fun x => s.onOcc x w) (hit : w o = 1) (miss : ∀ o', o' ≠ o → w o' = 0) :
    CountsEach i fun _ x m => m = .occ x o := by
  refine countsEach_of_occ he (fun _ _ _ e => ⟨_, e⟩) fun s x o' => ?_
  by_cases h : o' = o
  · exact ⟨fun _ => h ▸ hit, fun hn => absurd (congrArg _ h) hn⟩
  · exact ⟨fun e => absurd (Moment.occ.inj e).2 h, fun _ => miss o' h⟩

/-- A row that counts one kind of occurrence, whatever else is known of it. -/
theorem countsEach_of_occ_kind {α : Type} {i : Instr} {kind : α → Occ} {w : Occ → Nat}
    (he : ∀ s, exec i s = countGp s fun x => s.onOcc x w) (hit : ∀ a, w (kind a) = 1)
    (miss : ∀ o, (∀ a, o ≠ kind a) → w o = 0) : CountsEach i fun _ x m => ∃ a, m = .occ x (kind a) := by
  refine countsEach_of_occ he (fun _ _ _ ⟨_, e⟩ => ⟨_, e⟩) fun s x o => ?_
  by_cases h : ∃ a, o = kind a
  · obtain ⟨a, rfl⟩ := h
    exact ⟨fun _ => hit a, fun hn => absurd ⟨a, rfl⟩ hn⟩
  · exact ⟨fun ⟨a, e⟩ => absurd ⟨a, (Moment.occ.inj e).2⟩ h, fun _ => miss o fun a e => h ⟨a, e⟩⟩

/-- A row that counts what the state made of an input in its own core. -/
theorem countsEach_of_found {i : Instr} {p : State → CoreId → Moment → Prop} {w : State → CoreId → Found → Nat}
    (he : ∀ s, exec i s = countGp s fun x => s.onFound x (w s x)) (hp : ∀ s x m, p s x m → ∃ f, m = .found x f)
    (h : ∀ s x f, Indicates (w s x f) (p s x (.found x f))) : CountsEach i p :=
  countsEach_of_indicates he fun s x => indicates_onFound (fun f hm => hm ▸ h s x f) (hp s x s.now)

/-- A row that counts one thing that the state makes of an input. -/
theorem countsEach_of_found_eq {i : Instr} {f : Found} {w : Found → Nat}
    (he : ∀ s, exec i s = countGp s fun x => s.onFound x w) (hit : w f = 1) (miss : ∀ f', f' ≠ f → w f' = 0) :
    CountsEach i fun _ x m => m = .found x f := by
  refine countsEach_of_found he (fun _ _ _ e => ⟨_, e⟩) fun s x f' => ?_
  by_cases h : f' = f
  · exact ⟨fun _ => h ▸ hit, fun hn => absurd (congrArg _ h) hn⟩
  · exact ⟨fun e => absurd (Moment.found.inj e).2 h, fun _ => miss f' h⟩

/-- A row that counts the cycles of its clock in which a condition of its core holds. -/
theorem countsEach_of_cycle {i : Instr} {c : State → CoreId → Bool} {p : State → CoreId → Prop}
    (he : ∀ s, exec i s = countGp s fun x => s.onCycle x (c s x).toNat) (h : ∀ s x, c s x = true ↔ p s x) :
    CountsEach i fun s x m => atCycle s x m ∧ p s x :=
  countsEach_of_indicates he fun s x => indicates_onCycle (indicates_toNat (h s x))

/-! ## Loads that are blocked (rules R201, R202 and R204) -/

theorem loadBlockStd_counts : CountsEach .loadBlockStd fun _ x m =>
    ∃ load store, m = .occ x (.loadBlocked (.unknownData load store)) ∧ load.addr = store.addr := by
  refine countsEach_of_occ (fun _ => rfl) (fun _ _ _ ⟨_, _, e, _⟩ => ⟨_, e⟩) fun s x o => ?_
  split
  · exact indicates_toNat (by simp)
  · next hn => exact indicates_zero fun ⟨_, _, e, _⟩ => hn _ _ (Moment.occ.inj e).2

/-- The third case is the trigger that the source does not list. -/
theorem loadBlockOverlapStore_counts : CountsEach .loadBlockOverlapStore fun _ x m =>
    m = .occ x (.loadBlocked .overlapUnlisted) ∨
      ∃ load store, m = .occ x (.loadBlocked (.overlap load store)) ∧ overlapBlocks load store = true := by
  refine countsEach_of_occ (fun _ => rfl)
    (fun _ _ _ h => h.elim (fun e => ⟨_, e⟩) fun ⟨_, _, e, _⟩ => ⟨_, e⟩) fun s x o => ?_
  split
  · exact indicates_toNat (by simp)
  · exact indicates_one (.inl rfl)
  · next hoverlap hunlisted =>
    refine indicates_zero ?_
    rintro (e | ⟨load, store, e, -⟩)
    · exact hunlisted (Moment.occ.inj e).2
    · exact hoverlap load store (Moment.occ.inj e).2

theorem loadBlockL1d_counts : CountsEach .loadBlockL1d fun s x m =>
    ∃ t, m = .occ x (.loadBlocked (.l1d t)) ∧ s.triggerHolds x t = true := by
  refine countsEach_of_occ (fun _ => rfl) (fun _ _ _ ⟨_, e, _⟩ => ⟨_, e⟩) fun s x o => ?_
  split
  · exact indicates_toNat (by simp)
  · next hn => exact indicates_zero fun ⟨_, e, _⟩ => hn _ (Moment.occ.inj e).2

/-! ## Two kinds of software prefetch, and delayed bypass (rules R211, R227 and R228) -/

theorem ssePreExecL2_counts : CountsEach .ssePreExecL2 fun _ x m =>
    ∃ missed, m = .occ x (.ssePrefetch .t1 missed) ∨ m = .occ x (.ssePrefetch .t2 missed) := by
  refine countsEach_of_occ (fun _ => rfl) (fun _ _ _ ⟨_, h⟩ => h.elim (fun e => ⟨_, e⟩) fun e => ⟨_, e⟩) fun s x o => ?_
  split
  · exact indicates_one ⟨_, .inl rfl⟩
  · exact indicates_one ⟨_, .inr rfl⟩
  · next ht1 ht2 =>
    exact indicates_zero fun ⟨_, h⟩ => h.elim (fun e => ht1 _ (Moment.occ.inj e).2) fun e => ht2 _ (Moment.occ.inj e).2

/-- Data comes from another unit where its source is another; of a load the free value says whether it is (log entry
5). -/
theorem generatedElsewhere_eq_true_iff {s : State} {user source : ExecUnit} :
    s.generatedElsewhere user source = true ↔
      source ≠ user ∧ (source = .load → s.unstated .loadedDataBypass = true) := by
  rw [State.generatedElsewhere, Bool.and_eq_true, Bool.or_eq_true, decide_eq_true_iff, decide_eq_true_iff,
    ← imp_iff_not_or, ne_comm]

theorem delayedBypassFp_counts : CountsEach .delayedBypassFp fun s x m =>
    ∃ source, m = .occ x (.bypass .floating source) ∧ source ≠ .floating ∧
      (source = .load → s.unstated .loadedDataBypass = true) := by
  refine countsEach_of_occ (fun _ => rfl) (fun _ _ _ ⟨_, e, _⟩ => ⟨_, e⟩) fun s x o => ?_
  split
  · exact indicates_toNat (by simp [generatedElsewhere_eq_true_iff])
  · next hn => exact indicates_zero fun ⟨_, e, _⟩ => hn _ (Moment.occ.inj e).2

theorem delayedBypassSimd_counts : CountsEach .delayedBypassSimd fun s x m =>
    ∃ source, m = .occ x (.bypass .simd source) ∧ source ≠ .simd ∧
      (source = .load → s.unstated .loadedDataBypass = true) := by
  refine countsEach_of_occ (fun _ => rfl) (fun _ _ _ ⟨_, e, _⟩ => ⟨_, e⟩) fun s x o => ?_
  split
  · exact indicates_toNat (by simp [generatedElsewhere_eq_true_iff])
  · next hn => exact indicates_zero fun ⟨_, e, _⟩ => hn _ (Moment.occ.inj e).2

/-! ## DTLB misses and assists (rules R213 to R216 and R222) -/

theorem dtlbMissesAny_counts : CountsEach .dtlbMissesAny fun _ x m =>
    ∃ k missedL0, m = .found x (.dtlbLookup k missedL0 true) := by
  refine countsEach_of_found (fun _ => rfl) (fun _ _ _ ⟨_, _, e⟩ => ⟨_, e⟩) fun s x f => ?_
  split
  · exact indicates_toNat (by simp [-Bool.exists_bool])
  · next hn => exact indicates_zero fun ⟨_, _, e⟩ => hn _ _ _ (Moment.found.inj e).2

theorem dtlbMissesMissLd_counts : CountsEach .dtlbMissesMissLd fun _ x m =>
    ∃ missedL0, m = .found x (.dtlbLookup .load missedL0 true) := by
  refine countsEach_of_found (fun _ => rfl) (fun _ _ _ ⟨_, e⟩ => ⟨_, e⟩) fun s x f => ?_
  split
  · exact indicates_toNat (by simp [-Bool.exists_bool])
  · next hn => exact indicates_zero fun ⟨_, e⟩ => hn _ _ (Moment.found.inj e).2

theorem dtlbMissesL0MissLd_counts : CountsEach .dtlbMissesL0MissLd fun _ x m =>
    ∃ missed, m = .found x (.dtlbLookup .load true missed) := by
  refine countsEach_of_found (fun _ => rfl) (fun _ _ _ ⟨_, e⟩ => ⟨_, e⟩) fun s x f => ?_
  split
  · exact indicates_toNat (by simp [-Bool.exists_bool])
  · next hn => exact indicates_zero fun ⟨_, e⟩ => hn _ _ (Moment.found.inj e).2

theorem dtlbMissesMissSt_counts : CountsEach .dtlbMissesMissSt fun _ x m =>
    ∃ missedL0, m = .found x (.dtlbLookup .store missedL0 true) := by
  refine countsEach_of_found (fun _ => rfl) (fun _ _ _ ⟨_, e⟩ => ⟨_, e⟩) fun s x f => ?_
  split
  · exact indicates_toNat (by simp [-Bool.exists_bool])
  · next hn => exact indicates_zero fun ⟨_, e⟩ => hn _ _ (Moment.found.inj e).2

theorem fpAssist_counts : CountsEach .fpAssist fun _ x m => m = .found x (.fpOp true) := by
  refine countsEach_of_found (fun _ => rfl) (fun _ _ _ e => ⟨_, e⟩) fun s x f => ?_
  split
  · exact indicates_toNat (by simp)
  · next hn => exact indicates_zero fun e => hn _ (Moment.found.inj e).2

/-- Settles O3: the rows of occurrences, then those of cycles by the condition each samples. -/
theorem loadStoreEventsCount : Obligations.LoadStoreEventsCount := by
  refine ⟨?_, loadBlockStd_counts, loadBlockOverlapStore_counts, ?_, loadBlockL1d_counts, ?_, ?_, ?_,
    ssePreExecL2_counts, ?_, dtlbMissesAny_counts, dtlbMissesMissLd_counts, dtlbMissesL0MissLd_counts,
    dtlbMissesMissSt_counts, ?_, ?_, ?_, fpAssist_counts, ?_, ?_, delayedBypassFp_counts, delayedBypassSimd_counts,
    ?_, ?_, ?_, ?_, ?_, ?_, ?_, ?_⟩
  -- loads blocked by an unknown address, and until retirement
  · exact countsEach_of_occ_eq (fun _ => rfl) rfl fun o h => by split; exacts [absurd rfl h, rfl]
  · exact countsEach_of_occ_kind (fun _ => rfl) (fun _ => rfl) fun o h => by split; exacts [absurd rfl (h _), rfl]
  -- segment loads, software prefetches of one kind, non-temporal stores
  · exact countsEach_of_found_eq (fun _ => rfl) rfl fun f h => by split; exacts [absurd rfl h, rfl]
  · exact countsEach_of_occ_kind (fun _ => rfl) (fun _ => rfl) fun o h => by split; exacts [absurd rfl (h _), rfl]
  · exact countsEach_of_occ_kind (fun _ => rfl) (fun _ => rfl) fun o h => by split; exacts [absurd rfl (h _), rfl]
  · exact countsEach_of_occ_eq (fun _ => rfl) rfl fun o h => by split; exacts [absurd rfl h, rfl]
  -- loads that are not blocked, page walks, floating point micro-ops, multiplies and divides
  · exact countsEach_of_occ_eq (fun _ => rfl) rfl fun o h => by split; exacts [absurd rfl h, rfl]
  · exact countsEach_of_found_eq (fun _ => rfl) rfl fun f h => by split; exacts [absurd rfl h, rfl]
  · exact countsEach_of_occ_eq (fun _ => rfl) rfl fun o h => by split; exacts [absurd rfl h, rfl]
  · exact countsEach_of_occ_kind (fun _ => rfl) (fun _ => rfl) fun o h => by split; exacts [absurd rfl (h _), rfl]
  · exact countsEach_of_occ_kind (fun _ => rfl) (fun _ => rfl) fun o h => by split; exacts [absurd rfl (h _), rfl]
  -- the store buffer and the store port
  · exact countsEach_of_cycle (fun _ => rfl) fun s x => Option.isSome_iff_ne_none
  · exact countsEach_of_cycle (fun _ => rfl) fun s x => Iff.rfl
  · exact countsEach_of_cycle (fun _ => rfl) fun s x => by rw [Bool.and_eq_true, Bool.or_eq_true]
  -- disambiguation mispredictions, and page walks in progress
  · exact countsEach_of_cycle (fun _ => rfl) fun s x => Iff.rfl
  · exact countsEach_of_indicates (fun _ => rfl) fun s x => indicates_onCoreCycle (indicates_toNat decide_eq_true_iff)
  -- the divider, and the bypass penalty of loads
  · exact countsEach_of_cycle (fun _ => rfl) fun s x => Iff.rfl
  · exact countsEach_of_cycle (fun _ => rfl) fun s x => by simp [and_assoc]
  · exact countsEach_of_cycle (fun _ => rfl) fun s x => Iff.rfl

/-! ## Lookups of the DTLB and the ITLB (rules R76, R293 and R297) -/

/-- What a lookup finds, by whether its page is in DTLB0 and in DTLB1. -/
theorem lookupDtlb_now (s : State) (x : CoreId) (page : Nat) :
    let in0 := decide (page ∈ (s.core x).tlb.dtlb0)
    let in1 := decide (page ∈ (s.core x).tlb.dtlb1)
    (s.lookupDtlb x .load page).now = .found x (.dtlbLookup .load (!in0) (!in0 && !in1)) ∧
    (s.lookupDtlb x .store page).now = .found x (.dtlbLookup .store false (!in1)) ∧
    (s.lookupDtlb x .unlisted page).now = .found x (.dtlbLookup .unlisted false (!in0 && !in1)) := by
  simp [State.lookupDtlb]

/-- A lookup fills nothing (log entry 34). -/
theorem lookupDtlb_core (s : State) (x y : CoreId) (k : AccessKind) (page : Nat) :
    (s.lookupDtlb x k page).core y = s.core y := begin_core ..

theorem fetchInst_core (s : State) (x y : CoreId) (f : Fetch) : (s.fetchInst x f).core y = s.core y := by
  obtain ⟨-, e⟩ | ⟨-, e⟩ := fetchInst_cases s x f <;> rw [e]
  exact begin_core ..

theorem fetchInst_full {s : State} {x : CoreId} (f : Fetch) (h : (s.core x).pipe.instQueueFull = true) :
    s.fetchInst x f = s := if_pos h

theorem fetchInst_now {s : State} {x : CoreId} (f : Fetch) (h : (s.core x).pipe.instQueueFull = false) :
    (s.fetchInst x f).now = .found x (.fetch f (!decide (f.page ∈ (s.core x).tlb.itlb))) := by
  obtain ⟨hfull, -⟩ | ⟨-, e⟩ := fetchInst_cases s x f
  · exact Bool.noConfusion (hfull.symm.trans h)
  · rw [e, begin_now, List.contains_eq_mem]

/-- Settles O55: the three kinds of access by what their lookup finds, and a fetch by whether the queue is full. -/
theorem dtlbLookups : Obligations.DtlbLookups := by
  refine ⟨fun s x page hx => ?_, fun s x f hx => ?_⟩
  · obtain ⟨hload, hstore, hunlisted⟩ := lookupDtlb_now s x page
    refine ⟨_, _, _, accept_about hx rfl rfl, accept_about hx rfl rfl, accept_about hx rfl rfl,
      fun h0 => hload.trans ?_, fun h0 h1 => hload.trans ?_, fun h0 h1 => hload.trans ?_, fun h1 => hstore.trans ?_,
      fun h1 => hstore.trans ?_, fun h => hunlisted.trans ?_, fun h0 h1 => hunlisted.trans ?_,
      fun y => ⟨lookupDtlb_core .., lookupDtlb_core .., lookupDtlb_core ..⟩⟩
    · simp [h0]
    · simp [h0, h1]
    · simp [h0, h1]
    · simp [h1]
    · simp [h1]
    · obtain h0 | h1 := h
      · simp [h0]
      · simp [h1]
    · simp [h0, h1]
  · refine ⟨s.fetchInst x f, accept_about hx rfl rfl, fun y => fetchInst_core s x y f, fetchInst_full f, fun h => ?_⟩
    rw [fetchInst_now f h]
    exact ⟨fun hp => by simp [hp], fun hp => by simp [hp]⟩

/-! ## Locked accesses and page walks (rules R68, R77, R219 and R220) -/

/-- While the store buffer drains, nothing that executes a locked access can retire (rule R69). -/
theorem Core.not_canRetire_of_draining {c : Core} {u : RetiredUop} (hd : c.draining ≠ none)
    (hl : u.completes.flatMap RetiredInst.locks ≠ []) : ¬c.canRetire u := fun h => by
  obtain hn | hnone := h.drained
  · exact hd hn
  · exact hl (List.flatMap_eq_nil_iff.mpr fun r hr => (hnone r hr).2)

/-- A locked access that asserted LOCK ends: one of its assertions goes (rule R68 (b)). -/
theorem endLock_of_locksBus {s : State} (x : CoreId) {a : DataRef} (h : locksBus s.params a = true) :
    s.endLock x a = { s with bus := s.bus.unlock x } := if_pos h

/-- A locked access that locked its cache line ends (rule R68 (a)). -/
theorem endLock_of_not_locksBus {s : State} (x : CoreId) {a : DataRef} (h : locksBus s.params a = false) :
    s.endLock x a = s.modCore x fun c => { c with lockedLines := c.lockedLines.erase (lineOf s.params a.bytes.addr) } :=
  if_neg (Bool.eq_false_iff.mp h)

theorem startPageWalk_core (s : State) (x : CoreId) (b : Bool) :
    (s.startPageWalk x b).core x = { s.core x with pageWalks := (s.core x).pageWalks + 1 } := by cases x <;> rfl

theorem endPageWalk_core (s : State) (x : CoreId) (b : Bool) :
    (s.endPageWalk x b).core x = { s.core x with pageWalks := (s.core x).pageWalks - 1 } := by cases x <;> rfl

theorem startPageWalk_bus (s : State) (x : CoreId) (b : Bool) : (s.startPageWalk x b).bus =
    if b then { s.bus with lock := (.thisProcessor, some x) :: s.bus.lock } else s.bus := rfl

theorem endPageWalk_bus (s : State) (x : CoreId) (b : Bool) :
    (s.endPageWalk x b).bus = if b then s.bus.unlock x else s.bus := rfl

/-- Settles O53: retirement by whether the micro-op can retire, the end of a lock by what it locked, and page walks. -/
theorem lockedAccessesLock : Obligations.LockedAccessesLock := by
  refine fun s x hx => ⟨⟨fun u => ?_, fun a => ?_⟩, fun b => ?_⟩
  · refine ⟨s.retire x u, accept_about hx rfl rfl, retire_of_not_canRetire, Core.not_canRetire_of_draining, fun h => ?_⟩
    have hfree := Core.holdsRetirement_eq_false.mpr h
    obtain ⟨hbus, -, -⟩ := retire_bus_queue hfree
    rw [hbus, retire_core hfree, List.map_const']
    exact ⟨rfl, rfl⟩
  · exact ⟨s.endLock x a, accept_about hx rfl rfl, endLock_of_locksBus x, endLock_of_not_locksBus x⟩
  · refine ⟨s.startPageWalk x b, s.endPageWalk x b, accept_about hx rfl rfl, accept_about hx rfl rfl, rfl, ?_⟩
    rw [startPageWalk_core, endPageWalk_core, startPageWalk_bus, endPageWalk_bus]
    refine ⟨rfl, rfl, fun h => ⟨if_pos h, if_pos h⟩, fun h => ?_⟩
    rw [h]
    exact ⟨rfl, rfl⟩

end Sys2Proof.Machine
end

section
/-! Loads that are blocked by a store, and the stores that have retired (O54): which inputs can free a load or move a
store, and the five cases in which a store blocks a load. -/

namespace Sys2Proof.Machine

/-! ## What leaves the blocked loads and the stores as they are -/

/-- The loads of a core that are blocked by a store, and its stores that have retired. -/
def Core.stores (c : Core) : List (Access × Access) × List Access × List Access :=
  (c.blocked.untilCommit, c.storeBuffer, c.retiredStores)

/-- From `s` to `t` no core's blocked loads or stores change. -/
def State.SameStores (s t : State) : Prop := ∀ y, (t.core y).stores = (s.core y).stores

theorem State.SameStores.refl (s : State) : s.SameStores s := fun _ => rfl

theorem State.SameStores.modCore {s t : State} (h : s.SameStores t) {x : CoreId} {f : Core → Core}
    (hf : (f (t.core x)).stores = (t.core x).stores) : s.SameStores (t.modCore x f) := fun y => by
  by_cases hy : y = x
  · rw [hy, modCore_core, hf, h]
  · rw [modCore_core_other t x f hy, h]

theorem State.SameStores.begin {s t : State} (h : s.SameStores t) (m : Moment) : s.SameStores (t.begin m) := h

theorem State.SameStores.followedBy {s t : State} (h : s.SameStores t) (l : List Input) :
    s.SameStores (t.followedBy l) := h

/-- A change of what is no core. -/
theorem State.SameStores.of_cores {s t : State} (h : ∀ y, t.core y = s.core y) : s.SameStores t := fun y => by rw [h]

@[simp] theorem Core.stores_setSegment (c : Core) (r : SegReg) (v : Segment) :
    (c.setSegment r v).stores = c.stores := by cases r <;> rfl

@[simp] theorem Core.stores_drain (c : Core) (cause : DrainCause) : (c.drain cause).stores = c.stores := by
  unfold Core.drain
  split <;> rfl

theorem sameStores_tickClock (s : State) (k : Tick) : s.SameStores (s.tickClock k) := fun y => by
  have hw : ((s.workOff k).core y).stores = (s.core y).stores := by
    rw [workOff_core]
    split <;> rfl
  by_cases hr : k = .ref → s.params.busCycles ≤ s.refCredit
  · rw [tickClock_core hr, hw]
  · obtain ⟨rfl, hearned⟩ := Classical.not_imp.mp hr
    rw [tickClock_ref_unearned (Nat.not_le.mp hearned)]

theorem sameStores_setTemperature (s : State) (n : Nat) : s.SameStores (s.setTemperature n) := fun y => by
  unfold State.setTemperature
  split <;> cases y <;> rfl

theorem sameStores_thermalCheck (s : State) : s.SameStores s.thermalCheck := fun y => by
  unfold State.thermalCheck
  split <;> cases y <;> rfl

theorem sameStores_makeRef (s : State) (x : CoreId) (a : DataRef) : s.SameStores (s.makeRef x a) := by
  obtain ⟨-, e⟩ | ⟨-, -, e⟩ | ⟨-, -, e⟩ := makeRef_cases s x a <;> rw [e]
  exacts [.refl s, ((State.SameStores.refl s).modCore rfl).begin _, .of_cores fun _ => rfl]

theorem sameStores_writeControl (s : State) (x : CoreId) (b : Bool) (v : Nat) (f : Bool) :
    s.SameStores (s.writeControl x b v f) := by
  have hregs := (State.SameStores.refl s).modCore (x := x)
    (f := fun c => { c with regs := if b then { c.regs with cr3 := v } else { c.regs with cr0 := v } }) rfl
  cases f
  exacts [hregs, (hregs.modCore rfl).begin _]

/-- The inputs that may free a load blocked by a store, block one, or move a store. -/
def Input.onStores (i : Input) : Bool :=
  match i with
  | .abandon _ _ _ _ | .nuke _ _ _ _ _ | .storeWait _ | .storeCommit _ | .retire _ _ | .occ _ (.loadBlocked _) => true
  | _ => false

/-- Every other input leaves the blocked loads and the stores of both cores as they are. -/
theorem advance_sameStores (s : State) {i : Input} (hi : i.onStores = false) : s.SameStores (s.advance i) := by
  have same := State.SameStores.refl s
  cases i
  case abandon | nuke | storeWait | storeCommit | retire => cases hi
  all_goals dsimp only [State.advance]
  case select | read | readMsr | writeMsr => exact same
  case startFixed x => exact same.modCore (f := fun c =>
      { c with fixedStarted := true, fixed0 := ⟨0, 0⟩, fixed1 := ⟨0, 0⟩, fixed2 := ⟨0, 0⟩ }) rfl
  case tick k => exact sameStores_tickClock s k
  case temperature n => exact sameStores_setTemperature s n
  case millisecond => exact sameStores_thermalCheck s
  case setPipe | setPredictors | dequeue | setRegs | halt | wake | disableInterrupts | setTlb | l1iLineState |
      prefetchStart | fpcwWrite => exact same.modCore rfl
  case transition | l1dLineIn | coreSnoop | itlbFlush | espImplicit | fpInst | mmxInst | emms | fpswWrite =>
    exact (same.modCore rfl).begin _
  case setBus | dataAccess | fpOp | l2LineIn | l2LineOut | l2LineState | l2Request | l2Reject | writeBackToL2 |
      dplPrefetch | bnr | snoopStall | snoopResponse => exact .of_cores fun _ => rfl
  case pageWalkStart x b => exact same.modCore (f := fun c => { c with pageWalks := c.pageWalks + 1 }) rfl
  case pageWalkEnd x b => exact same.modCore (f := fun c => { c with pageWalks := c.pageWalks - 1 }) rfl
  case busTrans b => exact .of_cores (submit_core s b)
  case enterPipe x load store =>
    refine same.modCore ?_
    obtain ⟨-, e⟩ | ⟨-, e⟩ := (s.core x).enter_cases s.params load store <;> rw [e]
    rfl
  case execute x =>
    refine same.modCore ?_
    unfold Core.executed
    split <;> rfl
  case fence x =>
    refine same.modCore ?_
    unfold Core.fence
    split <;> rfl
  case ioRequest x =>
    refine same.modCore ?_
    unfold Core.requestIo
    split <;> rfl
  case drain x cause => exact same.modCore (Core.stores_drain ..)
  case interrupt x => exact (same.modCore (Core.stores_drain (s.core x) _ :)).begin _
  case busRequest x r n =>
    unfold State.requestBus
    split
    exacts [same.modCore rfl, same.begin _]
  case takeInterrupt x =>
    split
    exacts [same.modCore rfl, same]
  case occ x o =>
    cases o
    case loadBlocked => cases hi
    all_goals exact same.begin _
  case segmentLoad x r v retires =>
    refine (same.modCore ?_).begin _
    cases retires
    exacts [rfl, Core.stores_setSegment ..]
  case segmentUpdate x r =>
    unfold State.updateSegment
    split
    exacts [same.begin _, (same.modCore (Core.stores_setSegment ..)).begin _]
  case segmentRetire x r => exact same.modCore (Core.stores_setSegment ..)
  case dataRef x a => exact sameStores_makeRef s x a
  case retiredRef x a =>
    obtain ⟨-, e⟩ | ⟨-, e⟩ := makeRetiredRef_cases s x a <;> rw [e]
    exacts [same, .of_cores fun _ => rfl]
  case l1dLineOut x n => exact ((same.modCore rfl).followedBy _).begin _
  case l1dLineState x n st =>
    obtain ⟨-, -, e⟩ | ⟨-, e⟩ := setL1dState_cases s x n st <;> rw [e]
    exacts [((same.modCore rfl).followedBy _).begin _, same.modCore rfl]
  case loadSent x b =>
    obtain ⟨-, e⟩ | ⟨-, e⟩ := sendLoad_cases s x b <;> rw [e]
    exacts [same, same.begin _]
  case prefetchEnd x k a st =>
    unfold State.endPrefetch
    dsimp only
    split
    exacts [(same.modCore rfl).followedBy _, same]
  case lockEnd x a =>
    unfold State.endLock
    split
    exacts [same, same.modCore rfl]
  case fetch x f => exact .of_cores fun y => fetchInst_core s x y f
  case controlWrite x b v f => exact sameStores_writeControl s x b v f
  case lengthDecode x d =>
    unfold State.decodeLength
    split
    exacts [same.modCore rfl, same]
  case espExplicit x =>
    unfold State.useEsp
    split
    exacts [(same.modCore rfl).begin _, same]

/-! ## What the other inputs do to them (rules R67 and R202) -/

/-- What may become of the blocked loads and the stores of core `x` on the input `i`: a load is freed by the commit of
the store that blocks it or thrown away, a store comes into the buffer from those that have retired, and one of these
comes from an instruction that retires (rule R202; log entry 44). -/
structure Input.StoresFollow (i : Input) (x : CoreId) (c d : Core) : Prop where
  freed : ∀ l st, (l, st) ∈ c.blocked.untilCommit → (l, st) ∉ d.blocked.untilCommit →
    (i = .storeCommit x ∧ c.storeBuffer.head? = some st) ∨
      ∃ n k loads, (i = .abandon x n k loads ∨ ∃ cause, i = .nuke x cause n k loads) ∧ ∃ a ∈ loads, a.bytes = l
  buffered : ∀ st ∈ d.storeBuffer, st ∈ c.storeBuffer ∨ st ∈ c.retiredStores
  retired : ∀ st ∈ d.retiredStores, st ∈ c.retiredStores ∨
    ∃ u, i = .retire x u ∧ ∃ r ∈ u.completes, r.store = some st

theorem Input.StoresFollow.of_stores {i : Input} {x : CoreId} {c d : Core} (h : d.stores = c.stores) :
    i.StoresFollow x c d := by
  simp only [Core.stores, Prod.mk.injEq] at h
  obtain ⟨hblocked, hbuffer, hretired⟩ := h
  exact ⟨fun _ _ hm hn => absurd hm (hblocked ▸ hn), fun _ hm => .inl (hbuffer ▸ hm), fun _ hm => .inl (hretired ▸ hm)⟩

/-- A load that an abandonment or a restart frees is one of those that it throws away. -/
theorem storesFollow_abandoned {i : Input} {x : CoreId} (c : Core) (n m : InFlight) (k : Nat) (loads : List DataRef)
    (hi : i = .abandon x n k loads ∨ ∃ cause, i = .nuke x cause n k loads) :
    i.StoresFollow x c (c.abandoned m k loads) := by
  refine ⟨fun l st hm hn => .inr ⟨n, k, loads, hi, ?_⟩, fun _ hm => .inl hm, fun _ hm => .inl hm⟩
  by_contra hkept
  exact hn (Core.mem_abandoned_untilCommit.mpr ⟨hm, fun a ha e => hkept ⟨a, ha, e⟩⟩)

theorem storesFollow_storeWaits (x : CoreId) (c : Core) : (Input.storeWait x).StoresFollow x c c.storeWaits := by
  obtain ⟨-, e⟩ | ⟨st, rest, -, hr, e⟩ := c.storeWaits_cases <;> rw [e]
  · exact .of_stores rfl
  · refine ⟨fun _ _ hm hn => absurd hm hn, fun st' hm => ?_, fun st' hm => .inl (hr ▸ List.mem_cons_of_mem st hm)⟩
    obtain hm | hm := List.mem_append.mp hm
    · exact .inl hm
    · exact .inr (hr ▸ List.mem_singleton.mp hm ▸ List.mem_cons_self)

/-- A commit frees the loads that its store blocks, and no others. -/
theorem storesFollow_storeCommits (x : CoreId) (c : Core) : (Input.storeCommit x).StoresFollow x c c.storeCommits := by
  obtain ⟨-, e⟩ | ⟨st, rest, hb, e⟩ := c.storeCommits_cases <;> rw [e]
  · exact .of_stores rfl
  · refine ⟨fun l st' hm hn => .inl ⟨rfl, ?_⟩, fun st' hm => .inl (hb ▸ List.mem_cons_of_mem st hm),
      fun _ hm => .inl hm⟩
    have hst : st' = st := by
      by_contra hne
      exact hn (List.mem_filter.mpr ⟨hm, decide_eq_true hne⟩)
    rw [hb, hst, List.head?_cons]

/-- What retires brings the stores of the instructions that it completes. -/
theorem storesFollow_retire (s : State) (x : CoreId) (u : RetiredUop) :
    (Input.retire x u).StoresFollow x (s.core x) ((s.retire x u).core x) := by
  by_cases h : (s.core x).canRetire u
  · rw [retire_core (Core.holdsRetirement_eq_false.mpr h)]
    refine ⟨fun _ _ hm hn => absurd hm hn, fun _ hm => .inl hm, fun st hm => ?_⟩
    obtain hm | hm := List.mem_append.mp (List.mem_of_mem_take hm)
    · exact .inl hm
    · exact .inr ⟨u, rfl, List.mem_filterMap.mp hm⟩
  · rw [retire_of_not_canRetire h]
    exact .of_stores rfl

theorem Blocked.untilCommit_subset_add (w : Blocked) (b : LoadBlock) : w.untilCommit ⊆ (w.add b).untilCommit := by
  unfold Blocked.add
  split
  · exact List.Subset.refl _
  · split
    · exact fun _ hm => List.mem_insert_of_mem hm
    · exact List.Subset.refl _
  · exact List.Subset.refl _

/-- A load that is blocked frees no other. -/
theorem storesFollow_blockLoad (s : State) (i : Input) (x : CoreId) (b : LoadBlock) :
    i.StoresFollow x (s.core x) ((s.blockLoad x b).core x) := by
  rw [State.blockLoad, begin_core, modCore_core]
  exact ⟨fun _ _ hm hn => absurd (Blocked.untilCommit_subset_add _ b hm) hn, fun _ hm => .inl hm, fun _ hm => .inl hm⟩

/-- What an input about a core does to the blocked loads and the stores of that core. -/
theorem advance_storesFollow (s : State) (i : Input) {x : CoreId} (hx : i.core? = some x) :
    i.StoresFollow x (s.core x) ((s.advance i).core x) := by
  cases i
  case abandon n k loads =>
    cases hx
    rw [State.advance, modCore_core]
    exact storesFollow_abandoned _ n n k loads (.inl rfl)
  case nuke cause n k loads =>
    cases hx
    rw [State.advance, (restart_core ..).1]
    exact storesFollow_abandoned _ n _ k loads (.inr ⟨cause, rfl⟩)
  case storeWait =>
    cases hx
    rw [State.advance, modCore_core]
    exact storesFollow_storeWaits x _
  case storeCommit =>
    cases hx
    rw [State.advance, modCore_core]
    exact storesFollow_storeCommits x _
  case retire u =>
    cases hx
    exact storesFollow_retire s x u
  case occ o =>
    cases o
    case loadBlocked b =>
      cases hx
      exact storesFollow_blockLoad s _ x b
    all_goals exact .of_stores (advance_sameStores s rfl x)
  all_goals exact .of_stores (advance_sameStores s rfl x)

/-- The inputs that touch blocked loads or stores are each about a core. -/
theorem Input.core?_of_onStores {i : Input} (h : i.onStores = true) : ∃ x, i.core? = some x := by
  unfold Input.onStores at h
  split at h
  case h_7 => cases h
  all_goals exact ⟨_, rfl⟩

/-- Whatever input is accepted: one that touches blocked loads or stores touches those of its own core alone. -/
theorem accept_storesFollow {s t : State} {i : Input} (ha : s.accept i = .next t) (x : CoreId) :
    i.StoresFollow x (s.core x) (t.core x) := by
  obtain ⟨hother, -⟩ := accept_core (y := x) ha
  obtain rfl | ⟨y, k, e, u, -, -, rfl⟩ | ⟨c, -, -, rfl⟩ := accept_next ha
  · by_cases hi : i.onStores = true
    · obtain ⟨y, hy⟩ := Input.core?_of_onStores hi
      by_cases hxy : x = y
      · exact advance_storesFollow s i (hxy ▸ hy)
      · rw [hother y hy hxy]
        exact .of_stores rfl
    · exact .of_stores (advance_sameStores s (Bool.not_eq_true _ ▸ hi) x)
  · have same := (State.SameStores.refl s).modCore (x := y)
      (f := fun c => { c with gp := c.gp.set k ⟨true, e, u, 0, 0⟩ }) rfl
    exact .of_stores (same x)
  · rw [readCounter_core]
    exact .of_stores rfl

/-! ## The five cases in which a store blocks a load (rule R202) -/

/-- Some bytes of the load are bytes of the store and some are not. -/
theorem Access.partlyWithin_iff {l s : Access} (hl : 0 < l.size) (hs : 0 < s.size) : l.partlyWithin s = true ↔
    (∃ n, l.touches n = true ∧ s.touches n = true) ∧ ∃ n, l.touches n = true ∧ s.touches n = false := by
  simp only [Access.partlyWithin, Access.within, Access.touches, Bool.and_eq_true, Bool.not_eq_true',
    Bool.and_eq_false_iff, decide_eq_true_eq, decide_eq_false_iff_not]
  constructor
  · rintro ⟨⟨hbelow, habove⟩, hout⟩
    refine ⟨⟨max l.addr s.addr, by omega, by omega⟩, ?_⟩
    by_cases hfirst : l.addr < s.addr
    · exact ⟨l.addr, by omega, by omega⟩
    · exact ⟨l.addr + l.size - 1, by omega, by omega⟩
  · rintro ⟨⟨n, hn, hns⟩, k, hk, hks⟩
    omega

theorem Access.spans_iff {a : Access} {n : Nat} :
    a.spans n = true ↔ a.addr / n ≠ (a.addr + a.size - 1) / n := decide_eq_true_iff

theorem Access.aliases4k_iff {a b : Access} :
    a.aliases4k b = true ↔ a.addr % 4096 = b.addr % 4096 ∧ a.addr / 4096 ≠ b.addr / 4096 := by
  simp [Access.aliases4k]

/-- A load that begins where the store begins is aligned to it (log entry 17). -/
theorem Access.alignedTo_of_addr_eq {l s : Access} (h : l.addr = s.addr) : l.alignedTo s = true := by
  simp [Access.alignedTo, h]

theorem overlapBlocks_iff {l s : Access} (hl : 0 < l.size) (hs : 0 < s.size) : overlapBlocks l s = true ↔
    ((∃ n, l.touches n = true ∧ s.touches n = true) ∧ (∃ n, l.touches n = true ∧ s.touches n = false)) ∨
    (l.within s = true ∧ s.aligned = true ∧
      (((l.size = 1 ∨ l.size = 2) ∧ l.alignedTo s = false) ∨ ((l.size = 4 ∨ l.size = 8) ∧ l.aligned = false))) ∨
    (l.within s = true ∧ s.aligned = false ∧ l.addr ≠ s.addr) ∨
    (l.addr / 8 ≠ (l.addr + l.size - 1) / 8 ∧ l.size ≠ 16) ∨
    (l.addr % 4096 = s.addr % 4096 ∧ l.addr / 4096 ≠ s.addr / 4096) := by
  rw [← Access.partlyWithin_iff hl hs, ← Access.spans_iff, ← Access.aliases4k_iff]
  simp only [overlapBlocks, Bool.or_eq_true, Bool.and_eq_true, Bool.not_eq_true', decide_eq_true_eq, or_assoc,
    and_assoc]

/-- Settles O54: the inputs by what they do to the blocked loads and the stores, then the cases of an overlap. -/
theorem overlapCases : Obligations.OverlapCases := by
  refine ⟨fun s t i x ha => ?_, fun l s hl hs => ⟨Access.alignedTo_of_addr_eq, overlapBlocks_iff hl hs⟩⟩
  have h := accept_storesFollow ha x
  exact ⟨h.freed, h.buffered, h.retired⟩

end Sys2Proof.Machine
end

section
/-! The map of event numbers and the encoding of its rows (O19, O20 and O21). -/

namespace Sys2Proof

open Machine

/-! ## The encoding of an instruction decodes to the event it names (rules R111, R114 and R117) -/

/-- A unit mask that no fixed row of the family has selects its composed row (rule R114, step 3). -/
theorem EventFamily.select_composed {f : EventFamily} {g : Byte → Instr} {u : Byte} (hu : ∀ r ∈ f.fixed, u ≠ r.1)
    (hg : f.composed = some g) : f.select u = some (g u) := by
  have hl : f.fixed.lookup u = none := List.lookup_eq_none_iff.mpr fun r hr => bne_iff_ne.mpr (hu r hr)
  rw [EventFamily.select, hl, hg, Option.map_some]

/-- Decoding inverts the encoding, up to second names: the decoder runs on the pair of each row. Of the composed rows
those of 2EH and 42H stand behind the fixed rows of their event number (rule R114). -/
theorem decodeEncoding_encode (i : Instr) (h : i.wellFormed = true) : decodeEncoding (encode i) = some i.event := by
  cases i
  case l2Rqsts u =>
    exact EventFamily.select_composed (f := ⟨0x2E, _, some .l2Rqsts⟩)
      (by simpa [Instr.wellFormed, l2RqstsUmaskOk] using h) rfl
  case l1dCacheLock u =>
    exact EventFamily.select_composed (f := ⟨0x42, _, some .l1dCacheLock⟩)
      (by simpa [Instr.wellFormed, l1dCacheLockUmaskOk] using h) rfl
  all_goals rfl

/-- The decoder finds in the word of a pair what it finds in the pair. -/
theorem decodeTableWord_select {e u : Byte} {i : Instr} (h : decode e u = some i) :
    decodeTableWord 16 (Encoding.select e u).word = some i := by
  have hc : decodeCode (BitVec.ofNat 16 (eventCode e u).toNat) = some i := by
    rw [BitVec.ofNat_toNat, BitVec.setWidth_eq, decodeCode, eventNum_eventCode, umask_eventCode, h]
  simp only [decodeTableWord, Encoding.word, hc]

/-- The address of a fixed-function counter read as an event code is an unlisted pair (rule R104). -/
theorem decodeTableWord_register {a : Nat} {i : Instr} (h : decodeMsr a = some i) :
    decodeTableWord 16 (Encoding.register a).word = some i := by
  have hunlisted : decode 0x09 0x03 = none ∧ decode 0x0A 0x03 = none ∧ decode 0x0B 0x03 = none := ⟨rfl, rfl, rfl⟩
  have hc : decodeCode (BitVec.ofNat 16 a) = none := by
    unfold decodeMsr at h
    split at h
    · exact hunlisted.1
    · exact hunlisted.2.1
    · exact hunlisted.2.2
    · exact absurd h nofun
  simp only [decodeTableWord, Encoding.word, hc, h]

/-- Settles O19: the encoding is inverted row by row, and the word of an encoding is read as the encoding is. -/
theorem decodeEncodeAgree : Obligations.DecodeEncodeAgree := by
  intro i h
  have hd := decodeEncoding_encode i h
  refine ⟨hd, ?_⟩
  cases hc : encode i with
  | select e u => exact decodeTableWord_select (hc ▸ hd : decodeEncoding (.select e u) = _)
  | register a => exact decodeTableWord_register (hc ▸ hd : decodeEncoding (.register a) = _)

/-! ## What a pair decodes to is encoded as that pair (rules R112 and R114) -/

/-- The instruction is the event of Table A-3 that the pair selects, and is encoded as that pair. -/
abbrev IsRowOf (e u : Byte) (i : Instr) : Prop :=
  i.wellFormed = true ∧ i.event = i ∧ encode i = .select e u ∧ (i.format = .fixedUmask ∨ i.format = .composedUmask)

/-- Every row of a family is encoded as the pair under which the family lists it. -/
def EventFamily.Faithful (f : EventFamily) : Prop :=
  (∀ r ∈ f.fixed, IsRowOf f.event r.1 r.2) ∧
    ∀ g, f.composed = some g → ∀ u, (∀ r ∈ f.fixed, u ≠ r.1) → IsRowOf f.event u (g u)

theorem EventFamily.Faithful.select {f : EventFamily} (h : f.Faithful) {u : Byte} {i : Instr}
    (hs : f.select u = some i) : IsRowOf f.event u i := by
  obtain ⟨hfixed, hcomposed⟩ := h
  unfold EventFamily.select at hs
  split at hs
  · next j hl =>
    cases hs
    obtain ⟨l, r, e, -⟩ := List.lookup_eq_some_iff.mp hl
    exact hfixed (u, _) (by rw [e]; simp)
  · next hl =>
    obtain ⟨g, hg, rfl⟩ := Option.map_eq_some_iff.mp hs
    exact hcomposed g hg u fun r hr => bne_iff_ne.mp (List.lookup_eq_none_iff.mp hl r hr)

/-- A family without a composed row is faithful where each of its rows is listed under its own pair. -/
theorem faithful_of_fixed {e : Byte} {l : List (Byte × Instr)} (h : ∀ r ∈ l, IsRowOf e r.1 r.2) :
    EventFamily.Faithful ⟨e, l, none⟩ := ⟨h, nofun⟩

/-- The same of a part of the map, as a check of its rows. -/
theorem forall_faithful_of_fixed {l : List EventFamily}
    (h : ∀ f ∈ l, f.composed.isNone = true ∧ ∀ r ∈ f.fixed, IsRowOf f.event r.1 r.2) : ∀ f ∈ l, f.Faithful := by
  intro f hf
  obtain ⟨hnone, hrows⟩ := h f hf
  exact ⟨hrows, fun g hg => by simp [hg] at hnone⟩

/-- A family without fixed rows is faithful where its composed row is of its event number. -/
theorem faithful_of_composed {e : Byte} {g : Byte → Instr} (h : ∀ u, IsRowOf e u (g u)) :
    EventFamily.Faithful ⟨e, [], some g⟩ :=
  ⟨nofun, fun _ hg u _ => Option.some.inj hg ▸ h u⟩

theorem l2Rqsts_faithful : EventFamily.Faithful
    ⟨0x2E, [(0x41, .l2RqstsSelfDemandIState), (0x4F, .l2RqstsSelfDemandMesi)], some .l2Rqsts⟩ := by
  refine ⟨by decide, fun _ hg u hu => ?_⟩
  cases hg
  exact ⟨by simpa [Instr.wellFormed, l2RqstsUmaskOk] using hu, rfl, rfl, .inr rfl⟩

theorem l1dCacheLock_faithful : EventFamily.Faithful
    ⟨0x42, [(0x10, .l1dCacheLockDuration)], some .l1dCacheLock⟩ := by
  refine ⟨by decide, fun _ hg u hu => ?_⟩
  cases hg
  exact ⟨by simpa [Instr.wellFormed, l1dCacheLockUmaskOk] using hu, rfl, rfl, .inr rfl⟩

theorem families42_faithful : ∀ f ∈ families42, f.Faithful := forall_faithful_of_fixed (by decide)

theorem families43_faithful : ∀ f ∈ families43, f.Faithful := by
  simp only [families43, List.forall_mem_cons]
  refine ⟨?_, ?_, ?_, ?_, ?_, ?_, ?_, ?_, ?_, ?_, l2Rqsts_faithful, ?_, ?_, faithful_of_fixed (by decide),
    faithful_of_fixed (by decide), faithful_of_fixed (by decide), nofun⟩
  all_goals exact faithful_of_composed fun _ => ⟨rfl, rfl, rfl, .inr rfl⟩

/-- At its default UMASK_L1D_ALL_REF names a row of its own (D14). -/
theorem families44_faithful : ∀ f ∈ families44 0x10, f.Faithful := by
  refine List.forall_mem_cons.mpr ⟨?_, List.forall_mem_cons.mpr ⟨?_, List.forall_mem_cons.mpr
    ⟨l1dCacheLock_faithful, forall_faithful_of_fixed (by decide)⟩⟩⟩
  all_goals exact faithful_of_composed fun _ => ⟨rfl, rfl, rfl, .inr rfl⟩

theorem families45_faithful : ∀ f ∈ families45, f.Faithful := by
  simp only [families45, List.forall_mem_cons]
  refine ⟨?_, ?_, ?_, ?_, ?_, ?_, ?_, ?_, ?_, ?_, ?_, ?_, ?_, ?_, ?_, ?_, ?_, ?_, ?_, ?_, ?_, ?_, ?_, ?_, nofun⟩
  all_goals exact faithful_of_composed fun _ => ⟨rfl, rfl, rfl, .inr rfl⟩

theorem families46_faithful : ∀ f ∈ families46, f.Faithful := forall_faithful_of_fixed (by decide)

theorem families47_faithful : ∀ f ∈ families47, f.Faithful := forall_faithful_of_fixed (by decide)

theorem families48_faithful : ∀ f ∈ families48, f.Faithful := forall_faithful_of_fixed (by decide)

theorem families49_faithful : ∀ f ∈ families49, f.Faithful := forall_faithful_of_fixed (by decide)

/-- Every row of the map is encoded as the pair under which the map lists it. -/
theorem eventFamilies_faithful : ∀ f ∈ eventFamilies 0x10, f.Faithful := by
  simp only [eventFamilies, List.forall_mem_append]
  exact ⟨⟨⟨⟨⟨⟨⟨families42_faithful, families43_faithful⟩, families44_faithful⟩, families45_faithful⟩,
    families46_faithful⟩, families47_faithful⟩, families48_faithful⟩, families49_faithful⟩

/-- Settles O20: the pair is found in the family of its event number, each of whose rows stands under its own pair. -/
theorem encodeDecodeAgree : Obligations.EncodeDecodeAgree := by
  intro e u i h
  obtain ⟨f, hf, hs⟩ := Option.bind_eq_some_iff.mp h
  have he : f.event = e := by simpa using List.find?_some hf
  exact he ▸ (eventFamilies_faithful f (List.mem_of_find?_eq_some hf)).select hs

/-! ## UMASK_L1D_ALL_REF (D14) -/

/-- Only the family of 43H depends on UMASK_L1D_ALL_REF. -/
theorem find?_families44 (a b e : Byte) (he : e ≠ 0x43) :
    (families44 a).find? (·.event = e) = (families44 b).find? (·.event = e) := by
  have h43 : decide ((0x43 : Byte) = e) = false := decide_eq_false (Ne.symm he)
  simp only [families44, List.find?_cons, h43]

theorem decodeWith_of_ne (a b : Byte) {e : Byte} (u : Byte) (he : e ≠ 0x43) : decodeWith a e u = decodeWith b e u := by
  simp only [decodeWith, eventFamilies, List.find?_append, find?_families44 a b e he]

/-- Event 43H has two rows, and the unit mask of one of them is the parameter. -/
theorem decodeWith_43 (a u : Byte) : decodeWith a 0x43 u =
    if u = a then some .l1dAllRef else if u = 0x02 then some .l1dAllCacheRef else none := by
  change EventFamily.select ⟨0x43, [(a, .l1dAllRef), (0x02, .l1dAllCacheRef)], none⟩ u = _
  unfold EventFamily.select
  by_cases ha : u = a
  · simp [ha]
  · by_cases h2 : u = 0x02
    · subst h2
      simp only [List.lookup_cons, beq_false_of_ne ha, if_neg ha]
      rfl
    · simp only [List.lookup_cons, beq_false_of_ne ha, beq_false_of_ne h2, if_neg ha, if_neg h2]
      rfl

/-- Settles O21: the family of 43H is the only one that the parameter enters. -/
theorem allRefUmaskMovesOneRow : Obligations.AllRefUmaskMovesOneRow :=
  fun a _ u _ => ⟨decodeWith_of_ne a 0x10 u, fun he => he ▸ decodeWith_43 a u⟩

end Sys2Proof
end

section
/-! Unit masks composed from qualifier fields (O22, O23 and O24): what the tables read back of the bits that settings
contribute, where the fields are apart. -/

namespace Sys2Proof

open Machine

/-! ## One table (rule R105) -/

/-- The bits of a setting lie in the field of its table. -/
theorem QTable.encode_and_field {σ : Type} [DecidableEq σ] {t : QTable σ} (ht : t.wf = true) {v : σ} {b : Byte}
    (hb : t.encode v = some b) : b &&& t.field = b := by
  simp only [QTable.wf, Bool.and_eq_true, List.all_eq_true, decide_eq_true_eq, and_assoc] at ht
  obtain ⟨hfield, -, -⟩ := ht
  obtain ⟨r, hr, rfl⟩ := Option.map_eq_some_iff.mp hb
  have hout : r.2 &&& ~~~t.field = 0 := hfield r (List.mem_of_find?_eq_some hr)
  calc r.2 &&& t.field = r.2 &&& t.field ||| r.2 &&& ~~~t.field := by simp [hout]
    _ = r.2 := by rw [← BitVec.and_or_distrib_left, BitVec.or_not_self, BitVec.and_allOnes]

/-- No two settings of a table share bits, so that the bits of a setting are read back as that setting. -/
theorem QTable.decode_of_encode {σ : Type} [DecidableEq σ] {t : QTable σ} (ht : t.wf = true) {v : σ} {u : Byte}
    (hu : t.encode v = some (u &&& t.field)) : t.decode u = some v := by
  simp only [QTable.wf, Bool.and_eq_true, decide_eq_true_eq, and_assoc] at ht
  obtain ⟨-, hbits, -⟩ := ht
  obtain ⟨r, hr, hru⟩ := Option.map_eq_some_iff.mp hu
  have hv : r.1 = v := by simpa using List.find?_some hr
  have hmem := List.mem_of_find?_eq_some hr
  obtain ⟨r', hr'⟩ : ∃ r', t.rows.find? (·.2 = u &&& t.field) = some r' :=
    Option.isSome_iff_exists.mp (List.find?_isSome.mpr ⟨r, hmem, decide_eq_true hru⟩)
  have hru' : r'.2 = u &&& t.field := by simpa using List.find?_some hr'
  have hrr' : r' = r := List.inj_on_of_nodup_map hbits (List.mem_of_find?_eq_some hr') hmem (hru'.trans hru.symm)
  rw [QTable.decode, hr', Option.map_some, hrr', hv]

/-! ## What the spec demands of the tables (rules R9, R105 and R107) -/

/-- The demands of `Params.wf` on the six tables: each is well formed, the fields of the qualifiers of one row are
apart, and the facts about the bits that the source settles. -/
structure Params.TablesWf (p : Params) : Prop where
  core : p.core.wf = true
  agent : p.agent.wf = true
  prefetch : p.prefetch.wf = true
  mesi : p.mesi.wf = true
  snoopResp : p.snoopResp.wf = true
  snoopType : p.snoopType.wf = true
  core_prefetch : p.core.field &&& p.prefetch.field = 0
  core_mesi : p.core.field &&& p.mesi.field = 0
  prefetch_mesi : p.prefetch.field &&& p.mesi.field = 0
  core_agent : p.core.field &&& p.agent.field = 0
  agent_snoopResp : p.agent.field &&& p.snoopResp.field = 0
  core_snoopType : p.core.field &&& p.snoopType.field = 0
  mesi_10 : p.mesi.field &&& 0x10 = 0
  selfDemand : ∃ a b c d, p.core.encode .self = some a ∧ p.prefetch.encode .demand = some b ∧
    p.mesi.encode .iState = some c ∧ p.mesi.encode .all = some d ∧ a ||| b ||| c = 0x41 ∧ a ||| b ||| d = 0x4F

theorem Params.tablesWf_of_wf {p : Params} (h : p.wf = true) : p.TablesWf := by
  simp only [Params.wf, disjoint, Bool.and_eq_true, decide_eq_true_eq, and_assoc] at h
  obtain ⟨-, -, -, hcore, hagent, hprefetch, hmesi, hresp, htype, hcp, hcm, hpm, hca, har, hct, -, -, -, -, -, h41, h10,
    -⟩ := h
  refine ⟨hcore, hagent, hprefetch, hmesi, hresp, htype, hcp, hcm, hpm, hca, har, hct, h10, ?_⟩
  split at h41
  · next a b c d ha hb hc hd =>
    simp only [Bool.and_eq_true, beq_iff_eq] at h41
    exact ⟨a, b, c, d, ha, hb, hc, hd, h41.1, h41.2⟩
  · exact absurd h41 nofun

/-- The combinations of qualifier fields that the rows of Table A-3 have (rule R106). -/
def qualifierLists : List (List Qualifier) :=
  [[], [.core], [.agent], [.mesi], [.core, .prefetch], [.core, .mesi], [.core, .prefetch, .mesi], [.core, .agent],
    [.agent, .snoopResp], [.core, .snoopType]]

theorem qualifiers_mem (i : Instr) : i.qualifiers ∈ qualifierLists := by 
  cases i <;> exact List.mem_of_elem_eq_true rfl

/-- The fields of these qualifiers occupy different bits. -/
def FieldsApart (p : Params) (qs : List Qualifier) : Prop := qs.Pairwise fun j k => j.field p &&& k.field p = 0

/-- The fields of the qualifiers of one row are apart. -/
theorem Params.TablesWf.fieldsApart {p : Params} (h : p.TablesWf) (i : Instr) : FieldsApart p i.qualifiers := by
  have hall : ∀ qs ∈ qualifierLists, FieldsApart p qs := by
    simp [qualifierLists, FieldsApart, Qualifier.field, h.core_prefetch, h.core_mesi, h.prefetch_mesi, h.core_agent,
      h.agent_snoopResp, h.core_snoopType]
  exact hall _ (qualifiers_mem i)

/-- The core qualifier stands first where a row has it, and once. -/
theorem core_notMem_tail {i : Instr} {qs : List Qualifier} (h : i.qualifiers = .core :: qs) : .core ∉ qs := by
  have hall : ∀ l ∈ qualifierLists, .core ∉ l.tail := by decide
  simpa [h] using hall _ (qualifiers_mem i)

theorem exists_eq_core_cons {i : Instr} (h : .core ∈ i.qualifiers) : ∃ qs, i.qualifiers = .core :: qs := by
  have hall : ∀ l ∈ qualifierLists, .core ∈ l → l = .core :: l.tail := by decide
  exact ⟨_, hall _ (qualifiers_mem i) h⟩

/-! ## The bits that settings contribute (rule R105) -/

/-- The bits that a setting contributes to the unit mask. -/
def settingBits (p : Params) (q : Settings) (k : Qualifier) : Option Byte :=
  match k with
  | .core => p.core.encode q.core
  | .agent => p.agent.encode q.agent
  | .prefetch => p.prefetch.encode q.prefetch
  | .mesi => p.mesi.encode q.mesi
  | .snoopResp => p.snoopResp.encode q.snoopResp
  | .snoopType => p.snoopType.encode q.snoopType

theorem encodeSettings_cons (p : Params) (k : Qualifier) (qs : List Qualifier) (q : Settings) :
    encodeSettings p (k :: qs) q = (encodeSettings p qs q).bind fun a => (settingBits p q k).map (· ||| a) := by
  cases k <;> rfl

theorem encodeSettings_cons_eq_some {p : Params} {k : Qualifier} {qs : List Qualifier} {q : Settings} {u : Byte} :
    encodeSettings p (k :: qs) q = some u ↔
      ∃ a b, encodeSettings p qs q = some a ∧ settingBits p q k = some b ∧ b ||| a = u := by
  simp only [encodeSettings_cons, Option.bind_eq_some_iff, Option.map_eq_some_iff, exists_and_left]

theorem Params.TablesWf.settingBits_and_field {p : Params} (h : p.TablesWf) {q : Settings} {k : Qualifier} {b : Byte}
    (hb : settingBits p q k = some b) : b &&& k.field p = b := by
  cases k
  exacts [QTable.encode_and_field h.core hb, QTable.encode_and_field h.agent hb, QTable.encode_and_field h.prefetch hb,
    QTable.encode_and_field h.mesi hb, QTable.encode_and_field h.snoopResp hb, QTable.encode_and_field h.snoopType hb]

theorem fieldsOf_cons (p : Params) (k : Qualifier) (qs : List Qualifier) :
    fieldsOf p (k :: qs) = k.field p ||| fieldsOf p qs := rfl

/-- A field that is apart from each of some fields is apart from them all. -/
theorem and_fieldsOf_eq_zero {p : Params} {f : Byte} {qs : List Qualifier} (h : ∀ k ∈ qs, f &&& k.field p = 0) :
    f &&& fieldsOf p qs = 0 := by
  induction qs with
  | nil => exact BitVec.and_zero
  | cons k qs ih =>
    rw [List.forall_mem_cons] at h
    simp [fieldsOf_cons, BitVec.and_or_distrib_left, h.1, ih h.2]

/-- Bits inside one field are outside a field apart from it. -/
theorem and_eq_zero_of_within {b f g : Byte} (hb : b &&& f = b) (hfg : f &&& g = 0) : b &&& g = 0 := by
  rw [← hb, BitVec.and_assoc, hfg]
  exact BitVec.and_zero

/-- Of a unit mask that settings contribute, the fields of their qualifiers hold all the bits, and each field holds
those of its setting. -/
theorem encodeSettings_fields {p : Params} (hp : p.TablesWf) {q : Settings} {qs : List Qualifier}
    (hqs : FieldsApart p qs) {u : Byte} (hu : encodeSettings p qs q = some u) :
    u &&& fieldsOf p qs = u ∧ ∀ k ∈ qs, settingBits p q k = some (u &&& k.field p) := by
  induction qs generalizing u with
  | nil =>
    cases hu
    exact ⟨BitVec.zero_and, nofun⟩
  | cons k qs ih =>
    obtain ⟨a, b, ha, hb, rfl⟩ := encodeSettings_cons_eq_some.mp hu
    obtain ⟨hk, hqs⟩ := List.pairwise_cons.mp hqs
    obtain ⟨ihfields, ihbits⟩ := ih hqs ha
    have hbk : b &&& k.field p = b := hp.settingBits_and_field hb
    have hbqs : b &&& fieldsOf p qs = 0 := and_eq_zero_of_within hbk (and_fieldsOf_eq_zero hk)
    have hak : a &&& k.field p = 0 :=
      and_eq_zero_of_within ihfields (by rw [BitVec.and_comm]; exact and_fieldsOf_eq_zero hk)
    refine ⟨?_, List.forall_mem_cons.mpr ⟨?_, fun j hj => ?_⟩⟩
    · simp [fieldsOf_cons, BitVec.and_or_distrib_left, BitVec.and_or_distrib_right, hbk, hak, hbqs, ihfields]
    · simp [BitVec.and_or_distrib_right, hbk, hak, hb]
    · simp [BitVec.and_or_distrib_right, and_eq_zero_of_within hbk (hk j hj), ihbits j hj]

/-! ## Reading the settings back (rule R114, step 3) -/

/-- The settings `s` with the setting of one qualifier taken from `q`. -/
def Settings.take (s q : Settings) (k : Qualifier) : Settings :=
  match k with
  | .core => { s with core := q.core }
  | .agent => { s with agent := q.agent }
  | .prefetch => { s with prefetch := q.prefetch }
  | .mesi => { s with mesi := q.mesi }
  | .snoopResp => { s with snoopResp := q.snoopResp }
  | .snoopType => { s with snoopType := q.snoopType }

theorem agreeOn_take_same (s q : Settings) (k : Qualifier) : agreeOn (s.take q k) q k := by cases k <;> rfl

theorem agreeOn_take_other {s q : Settings} {j k : Qualifier} (h : j ≠ k) :
    agreeOn (s.take q k) q j ↔ agreeOn s q j := by
  cases k <;> cases j <;> first | rfl | exact absurd rfl h

/-- Of a qualifier other than the core, the core setting is nothing. -/
theorem take_core_of_ne (s q : Settings) (c : CoreSetting) {k : Qualifier} (h : k ≠ .core) :
    s.take { q with core := c } k = s.take q k := by
  cases k
  exacts [absurd rfl h, rfl, rfl, rfl, rfl, rfl]

theorem agreeOn_core_of_ne {r q : Settings} {c : CoreSetting} {k : Qualifier} (h : k ≠ .core) :
    agreeOn r { q with core := c } k ↔ agreeOn r q k := by
  cases k
  exacts [absurd rfl h, Iff.rfl, Iff.rfl, Iff.rfl, Iff.rfl, Iff.rfl]

theorem agreeOn_foldl_take (q : Settings) (j : Qualifier) (qs : List Qualifier) (s : Settings)
    (h : j ∈ qs ∨ agreeOn s q j) : agreeOn (qs.foldl (·.take q ·) s) q j := by
  induction qs generalizing s with
  | nil => exact h.resolve_left List.not_mem_nil
  | cons k qs ih =>
    refine ih _ ?_
    by_cases hjk : j = k
    · exact .inr (hjk ▸ agreeOn_take_same s q j)
    · rw [agreeOn_take_other hjk]
      exact h.imp_left fun hj => (List.mem_cons.mp hj).resolve_left hjk

theorem readSettings_eq_foldl {p : Params} {u : Byte} {q : Settings} {qs : List Qualifier}
    (h : ∀ k ∈ qs, ∀ s, k.read p u s = some (s.take q k)) (s : Settings) :
    readSettings p u qs s = some (qs.foldl (·.take q ·) s) := by
  induction qs generalizing s with
  | nil => rfl
  | cons k qs ih =>
    rw [List.forall_mem_cons] at h
    rw [readSettings, h.1, Option.bind_some, ih h.2, List.foldl_cons]

/-- A unit mask inside the fields, each of which reads as a setting of `q`, decodes to the settings of `q`. -/
theorem decodeSettings_of_read {p : Params} {u : Byte} {q : Settings} {qs : List Qualifier}
    (hu : u &&& fieldsOf p qs = u) (h : ∀ k ∈ qs, ∀ s, k.read p u s = some (s.take q k)) :
    ∃ r, decodeSettings p qs u = some r ∧ ∀ k ∈ qs, agreeOn r q k := by
  have hout : u &&& ~~~fieldsOf p qs = 0 := by
    rw [← hu, BitVec.and_assoc, BitVec.and_not_self]
    exact BitVec.and_zero
  exact ⟨_, by rw [decodeSettings, if_pos hout, readSettings_eq_foldl h],
    fun k hk => agreeOn_foldl_take q k qs _ (.inl hk)⟩

/-- A field that holds the bits of a setting reads as that setting; of the core field that is so on two cores. -/
theorem Params.TablesWf.read_of_bits {p : Params} (hp : p.TablesWf) {u : Byte} {q : Settings} {k : Qualifier}
    (hk : k = .core → p.nCores ≠ 1) (hb : settingBits p q k = some (u &&& k.field p)) (s : Settings) :
    k.read p u s = some (s.take q k) := by
  cases k
  case core => rw [Qualifier.read, decodeCore, if_neg (hk rfl), QTable.decode_of_encode hp.core hb]; rfl
  case agent => rw [Qualifier.read, QTable.decode_of_encode hp.agent hb]; rfl
  case prefetch => rw [Qualifier.read, QTable.decode_of_encode hp.prefetch hb]; rfl
  case mesi => rw [Qualifier.read, QTable.decode_of_encode hp.mesi hb]; rfl
  case snoopResp => rw [Qualifier.read, QTable.decode_of_encode hp.snoopResp hb]; rfl
  case snoopType => rw [Qualifier.read, QTable.decode_of_encode hp.snoopType hb]; rfl

/-- On one core the core field reads as SELF where it is 00B (rule R113; log entry 31). -/
theorem read_core_of_one {p : Params} (h1 : p.nCores = 1) {u : Byte} (hu : u &&& p.core.field = 0) {q : Settings}
    (hq : q.core = .self) (s : Settings) : Qualifier.core.read p u s = some (s.take q .core) := by
  rw [Qualifier.read, decodeCore, if_pos h1, if_pos hu, Option.map_some, Settings.take, hq]

/-- Without the core qualifier, or on two cores, the settings composed are the settings read. -/
theorem decodeSettings_of_encodeSettings {p : Params} (hp : p.TablesWf) {qs : List Qualifier}
    (hqs : FieldsApart p qs) (hcore : .core ∈ qs → p.nCores ≠ 1) {q : Settings}
    {u : Byte} (hu : encodeSettings p qs q = some u) :
    ∃ r, decodeSettings p qs u = some r ∧ ∀ k ∈ qs, agreeOn r q k := by
  obtain ⟨hfields, hbits⟩ := encodeSettings_fields hp hqs hu
  exact decodeSettings_of_read hfields fun k hk => hp.read_of_bits (fun e => hcore (e ▸ hk)) (hbits k hk)

/-- On one core the bits of the other qualifiers leave the core field 00B, which reads as SELF. -/
theorem decodeSettings_core_of_one {p : Params} (hp : p.TablesWf) (h1 : p.nCores = 1) {qs : List Qualifier}
    (hqs : FieldsApart p (.core :: qs)) (hcore : .core ∉ qs) {q : Settings}
    {u : Byte} (hu : encodeSettings p qs q = some u) : u &&& p.core.field = 0 ∧
      ∃ r, decodeSettings p (.core :: qs) u = some r ∧ r.core = .self ∧ ∀ k ∈ qs, agreeOn r q k := by
  obtain ⟨hapart, hqs⟩ := List.pairwise_cons.mp hqs
  obtain ⟨hfields, hbits⟩ := encodeSettings_fields hp hqs hu
  have hzero : u &&& p.core.field = 0 :=
    and_eq_zero_of_within hfields (by rw [BitVec.and_comm]; exact and_fieldsOf_eq_zero hapart)
  have hall : u &&& fieldsOf p (.core :: qs) = u := by
    rw [fieldsOf_cons, BitVec.and_or_distrib_left, hfields]
    exact hzero ▸ BitVec.zero_or
  have hne : ∀ k ∈ qs, k ≠ .core := fun k hk e => hcore (e ▸ hk)
  obtain ⟨r, hr, hagree⟩ := decodeSettings_of_read (q := { q with core := .self }) hall
    (List.forall_mem_cons.mpr ⟨read_core_of_one h1 hzero rfl, fun k hk s =>
      (hp.read_of_bits (fun e => absurd e (hne k hk)) (hbits k hk) s).trans
        (congrArg some (take_core_of_ne s q _ (hne k hk)).symm)⟩)
  rw [List.forall_mem_cons] at hagree
  exact ⟨hzero, r, hr, hagree.1, fun k hk => (agreeOn_core_of_ne (hne k hk)).mp (hagree.2 k hk)⟩

/-- Settles O22: the fields of a row are apart, so each is read back on its own; on one core the core field is 00B. -/
theorem composedUmaskRoundTrip : Obligations.ComposedUmaskRoundTrip := by
  intro p i q u hp _
  have hp := Params.tablesWf_of_wf hp
  have hqs := hp.fieldsApart i
  refine ⟨fun h2 hu => decodeSettings_of_encodeSettings hp hqs (fun _ => by omega) hu, fun h1 hu => ?_⟩
  by_cases hcore : .core ∈ i.qualifiers
  · obtain ⟨qs, e⟩ := exists_eq_core_cons hcore
    have htail := core_notMem_tail e
    have hfilter : i.qualifiers.filter (· ≠ .core) = qs := by
      rw [e, List.filter_cons_of_neg (by simp), List.filter_eq_self]
      exact fun k hk => decide_eq_true fun hk' => htail (hk' ▸ hk)
    rw [hfilter] at hu
    rw [e] at hqs ⊢
    obtain ⟨hzero, r, hr, hself, hagree⟩ := decodeSettings_core_of_one hp h1 hqs htail hu
    exact ⟨r, hr, fun k hk hne => hagree k ((List.mem_cons.mp hk).resolve_left hne), fun _ => ⟨hzero, hself⟩⟩
  · have hfilter : i.qualifiers.filter (· ≠ .core) = i.qualifiers :=
      List.filter_eq_self.mpr fun k hk => decide_eq_true fun hk' => hcore (hk' ▸ hk)
    rw [hfilter] at hu
    obtain ⟨r, hr, hagree⟩ := decodeSettings_of_encodeSettings hp hqs (fun h => absurd h hcore) hu
    exact ⟨r, hr, fun k hk _ => hagree k hk, fun h => absurd h hcore⟩

/-! ## The rows of 2EH and 42H that stand beside composed rows (rule R107) -/

/-- The composed row of 2EH under SELF and DEMAND counts the demand requests of the core itself. -/
theorem onL2Request_self_demand {s : State} {q : Settings} {p : LineState → Bool} (hc : q.core = .self)
    (hd : q.prefetch = .demand) (hm : ∀ st, q.mesiSel st = p st) (x : CoreId) :
    s.onL2Request q x (fun r _ => r.completed && q.pfSel r.hwPrefetch && s.isL2Rqst r.kind) = s.demandRequests x p := by
  unfold State.onL2Request State.demandRequests State.onFoundIn State.onFound
  cases s.now with
  | found y f =>
    cases f with
    | l2Request r missed st =>
      by_cases hy : y = x
      · simp [Settings.coreSel, Settings.pfSel, hc, hd, hm, hy, Bool.and_comm]
      · simp [Settings.coreSel, hc, hy]
    | _ => simp
  | _ => rfl

/-- The composed row of 2EH under a unit mask composed of SELF, DEMAND and a line state setting. -/
theorem exec_l2Rqsts_self_demand {s : State} (hp : s.params.TablesWf) (h2 : s.params.nCores = 2) {v : MesiSetting}
    {p : LineState → Bool} (hm : ∀ q : Settings, q.mesi = v → ∀ st, q.mesiSel st = p st) {u : Byte}
    (hu : encodeSettings s.params [.core, .prefetch, .mesi] { mesi := v } = some u) :
    exec (.l2Rqsts u) s = countGp s fun x => s.demandRequests x p := by
  have hqs : FieldsApart s.params [.core, .prefetch, .mesi] := hp.fieldsApart (.l2Rqsts u)
  obtain ⟨r, hr, hagree⟩ := decodeSettings_of_encodeSettings hp hqs (fun _ => by omega) hu
  have hself : r.core = .self := hagree .core (by decide)
  have hdemand : r.prefetch = .demand := hagree .prefetch (by decide)
  have hmesi : r.mesi = v := hagree .mesi (by decide)
  change countQualified s [.core, .prefetch, .mesi] u _ = _
  rw [countQualified, hr]
  exact congrArg (countGp s) (funext (onL2Request_self_demand hself hdemand (hm r hmesi)))

/-- The bits of SELF, DEMAND and I_STATE or MESI are 41H and 4FH (rule R107 (a)). -/
theorem Params.TablesWf.encode_self_demand {p : Params} (h : p.TablesWf) :
    encodeSettings p [.core, .prefetch, .mesi] { mesi := .iState } = some 0x41 ∧
      encodeSettings p [.core, .prefetch, .mesi] { mesi := .all } = some 0x4F := by
  obtain ⟨a, b, c, d, ha, hb, hc, hd, h41, h4F⟩ := h.selfDemand
  constructor
  · simp [encodeSettings, ha, hb, hc, ← h41, BitVec.or_assoc]
  · simp [encodeSettings, ha, hb, hd, ← h4F, BitVec.or_assoc]

/-- Bit 4 lies outside the field of the line states, so no choice of tables accepts 10H (rule R107 (b)). -/
theorem Params.TablesWf.decodeSettings_mesi_10 {p : Params} (h : p.TablesWf) :
    decodeSettings p [.mesi] 0x10 = none := by
  have hfields : fieldsOf p [.mesi] = p.mesi.field := BitVec.or_zero
  refine if_neg fun hout => ?_
  rw [hfields] at hout
  have h10 : (0x10 : Byte) &&& p.mesi.field ||| 0x10 &&& ~~~p.mesi.field = 0x10 := by
    rw [← BitVec.and_or_distrib_left, BitVec.or_not_self, BitVec.and_allOnes]
  rw [hout, BitVec.and_comm, h.mesi_10] at h10
  exact absurd h10 (by decide)

/-- Settles O23: 41H and 4FH decode to the settings they are composed of, and 10H to none. -/
theorem fixedRowsBesideComposedRows : Obligations.FixedRowsBesideComposedRows := by
  refine ⟨fun s hp h2 => ?_, rfl, fun s hp => ?_⟩
  · have hp := Params.tablesWf_of_wf hp
    obtain ⟨h41, h4F⟩ := hp.encode_self_demand
    refine ⟨exec_l2Rqsts_self_demand hp h2 (fun q hq st => ?_) h41,
      exec_l2Rqsts_self_demand hp h2 (fun q hq st => ?_) h4F⟩
    · cases st <;> simp [Settings.mesiSel, hq, MesiSetting.iState]
    · cases st <;> simp [Settings.mesiSel, hq, MesiSetting.all]
  · exact countQualified_unlisted s _ _ _ (Params.tablesWf_of_wf hp).decodeSettings_mesi_10

/-! ## The core field on a processor with one core (rule R113) -/

/-- Where one field of a row accepts no setting, the row has no settings. -/
theorem readSettings_eq_none {p : Params} {u : Byte} {k : Qualifier} {qs : List Qualifier} (hk : k ∈ qs)
    (h : ∀ s, k.read p u s = none) (s : Settings) : readSettings p u qs s = none := by
  induction qs generalizing s with
  | nil => exact absurd hk List.not_mem_nil
  | cons j qs ih =>
    rw [readSettings, Option.bind_eq_none_iff]
    intro t hj
    obtain rfl | hk := List.mem_cons.mp hk
    · exact absurd (h s ▸ hj) nofun
    · exact ih hk t

/-- The core field is reserved on one core: no setting is read where it is not 00B. -/
theorem decodeSettings_reserved_core {p : Params} {u : Byte} {qs : List Qualifier} (h1 : p.nCores = 1)
    (hqs : .core ∈ qs) (hu : u &&& p.core.field ≠ 0) : decodeSettings p qs u = none := by
  have hread : ∀ s, Qualifier.core.read p u s = none := fun s => by
    rw [Qualifier.read, decodeCore, if_pos h1, if_neg hu, Option.map_none]
  unfold decodeSettings
  split
  · exact readSettings_eq_none hqs hread _
  · rfl

theorem event_qualifiers (i : Instr) : i.event.qualifiers = i.qualifiers := by cases i <;> rfl

/-- A row with qualifier fields is found in the map whatever UMASK_L1D_ALL_REF is: it is no row of 43H (D14). -/
theorem decodeWith_of_qualifiers {i : Instr} {a e u : Byte} (hq : i.qualifiers ≠ []) (hi : i.wellFormed = true)
    (he : encode i = .select e u) : decodeWith a e u = some i.event := by
  have hd : decode e u = some i.event := by
    have h := decodeEncoding_encode i hi
    rwa [he] at h
  by_cases h43 : e = 0x43
  · subst h43
    have hrow := (decodeWith_43 0x10 u).symm.trans hd
    rw [← event_qualifiers] at hq
    split at hrow
    · exact absurd (Option.some.inj hrow ▸ rfl) hq
    · split at hrow
      · exact absurd (Option.some.inj hrow ▸ rfl) hq
      · cases hrow
  · exact (decodeWith_of_ne a 0x10 u h43).trans hd

/-- A composed row counts with the settings of the unit mask it is encoded with. -/
theorem exec_qualified {i : Instr} {e u : Byte} (s : State) (hq : i.qualifiers ≠ []) (he : encode i = .select e u) :
    ∃ w, exec i s = countQualified s i.qualifiers u w := by
  cases i
  case l2Ads | l2DbusBusyRd | l2LinesIn | l2MLinesIn | l2LinesOut | l2MLinesOut | l2Ifetch | l2Ld | l2St | l2Lock |
      l2Rqsts | l2RejectBusq | l2NoReq | l1dCacheLd | l1dCacheSt | l1dCacheLock | busRequestOutstanding | busBnrDrv |
      busDrdyClocks | busLockClocks | busDataRcv | busTransBrd | busTransRfo | busTransWb | busTransIfetch |
      busTransInvalid | busTransPwr | busTransP | busTransIo | busTransDef | busTransBurst | busTransMem | busTransAny |
      extSnoop | cmpSnoop | busHitDrv | busHitmDrv | busqEmpty | snoopStallDrv | busIoWait =>
    cases he
    exact ⟨_, rfl⟩
  all_goals exact absurd rfl hq

/-- Settles O24: no setting is read of the core field, so the row counts nothing and the pair is unlisted. -/
theorem reservedCoreFieldSelectsNothing : Obligations.ReservedCoreFieldSelectsNothing := by
  intro s i e u h1 hcore hi he hu
  have hq : i.qualifiers ≠ [] := List.ne_nil_of_mem hcore
  have hnone := decodeSettings_reserved_core h1 hcore hu
  obtain ⟨w, hw⟩ := exec_qualified s hq he
  refine ⟨hnone, ?_, hw ▸ countQualified_unlisted s _ u w hnone⟩
  have hrejected : i.event.acceptedBy s.params u = false := by
    simp [Instr.acceptedBy, event_qualifiers, hnone, hq]
  rw [decodeSelection, decodeWith_of_qualifiers hq hi he, Option.filter_some, hrejected]
  rfl

end Sys2Proof
end

section
/-! The architectural and the fixed-function events (O1, O2 and O25), and the samples of the precise events (O58). -/

namespace Sys2Proof.Machine

/-! ## Retired instructions (rules R334 to R354) -/

theorem onRetired_of_retired {s : State} {x y : CoreId} {u : RetiredUop} (h : s.now = .found y (.retired u))
    (p : RetiredInst → Bool) : s.onRetired x p = if y = x then u.completes.countP p else 0 := by
  simp only [State.onRetired, State.onFound, h]

/-- In a moment in which no micro-op retires no instruction does. -/
theorem onRetired_of_not_retired {s : State} {x : CoreId} (h : ∀ y u, s.now ≠ .found y (.retired u))
    (p : RetiredInst → Bool) : s.onRetired x p = 0 := by
  unfold State.onRetired State.onFound
  split
  · next y f hm =>
    split
    · beta_reduce
      split
      · next u => exact absurd hm (h y u)
      · rfl
    · rfl
  · rfl

/-- A row that counts retired instructions by a condition on them. -/
theorem countsRetired_of_onRetired {i : Instr} {p : RetiredInst → Bool}
    (he : ∀ s, exec i s = countGp s fun x => s.onRetired x p) : CountsRetired i p := by
  intro s x k rest ht
  rw [he, countGp_served s _ ht]
  beta_reduce
  split
  · next y u hm => rw [onRetired_of_retired hm]
  · next hn => rw [onRetired_of_not_retired hn]

/-- Settles O1: clocks, requests and retired instructions, each from what its amount says of the moment. -/
theorem architecturalEventsCount : Obligations.ArchitecturalEventsCount := by
  refine ⟨?_, ?_, countsRetired_of_onRetired fun _ => rfl, ?_, ?_, ?_, countsRetired_of_onRetired fun _ => rfl⟩
  · exact countsEach_of_indicates (fun _ => rfl) fun s x => indicates_onCoreCycle (indicates_toNat (by simp))
  · exact countsEach_of_indicates (fun _ => rfl) fun s x => indicates_onBusCycle (indicates_toNat (by simp))
  · exact countsEach_of_indicates (fun _ => rfl) fun s x =>
      (indicates_demandRequests fun _ => iff_true_intro rfl).congr (by simp)
  · exact countsEach_of_indicates (fun _ => rfl) fun s x =>
      (indicates_demandRequests fun _ => decide_eq_true_iff).congr (by simp)
  · have hany : (fun r : RetiredInst => r.branch.any fun _ => true) = fun r => r.branch.isSome :=
      funext fun r => by cases r.branch <;> rfl
    exact hany ▸ countsRetired_of_onRetired fun _ => rfl

/-! ## The fixed-function events (rules R150 to R152) -/

/-- An amount that says whether a condition holds is 1 or 0 by that condition. -/
theorem Indicates.eq_ite {n : Nat} {p : Prop} [Decidable p] (h : Indicates n p) : n = if p then 1 else 0 := by
  split
  · next hp => exact h.1 hp
  · next hp => exact h.2 hp

/-- An event of a fixed-function counter counts what its amount is worth. -/
theorem countsFixed_of_countFixed {i : Instr} {f : FixedId} {w : State → CoreId → Nat}
    {n : State → CoreId → Moment → Nat} (he : ∀ s, exec i s = countFixed s f (w s))
    (h : ∀ s x, w s x = n s x s.now) : CountsFixed i f n := by
  intro s x rest ht
  rw [he, countFixed_served s f _ ht, h]

/-- Settles O2: the instructions that retire are all that the micro-op completes; the cycles are those not halted. -/
theorem fixedFunctionEventsCount : Obligations.FixedFunctionEventsCount := by
  refine ⟨countsFixed_of_countFixed (fun _ => rfl) fun s x => ?_,
    countsFixed_of_countFixed (fun _ => rfl) fun s x => ?_, countsFixed_of_countFixed (fun _ => rfl) fun s x => ?_⟩
  · split
    · next y u hm => rw [onRetired_of_retired hm, List.countP_true]
    · next hn => exact onRetired_of_not_retired hn _
  · exact (indicates_onCoreCycle (indicates_toNat (by simp))).eq_ite
  · exact (indicates_onRefCycle (indicates_toNat (by simp))).eq_ite

/-! ## Second names (rule R111, D15) -/

/-- Only the seven events of Table A-1 are second names: what holds of them, and of each event that names itself,
holds of every event. -/
theorem event_induction {P : Instr → Prop} (self : ∀ i, i.event = i → P i) (coreCycles : P .archUnhaltedCoreCycles)
    (referenceCycles : P .archUnhaltedReferenceCycles) (instructions : P .archInstructionRetired)
    (llcReference : P .archLlcReference) (llcMisses : P .archLlcMisses) (branches : P .archBranchInstructionRetired)
    (branchMisses : P .archBranchMissesRetired) (i : Instr) : P i := by
  cases i
  case archUnhaltedCoreCycles | archUnhaltedReferenceCycles | archInstructionRetired | archLlcReference | archLlcMisses |
      archBranchInstructionRetired | archBranchMissesRetired => assumption
  all_goals exact self _ rfl

/-- Settles O25: the meaning of a second name is written as that of the event it names. -/
theorem architecturalEventsAreSecondNames : Obligations.ArchitecturalEventsAreSecondNames := fun i s =>
  event_induction (P := fun i => exec i.event s = exec i s) (fun _ h => congrArg (exec · s) h) rfl rfl rfl rfl rfl rfl
    rfl i

/-! ## Which moments cause a precise event (rules R339, R354, R362 and R369 to R373) -/

/-- The retired instruction causes the precise event: a mispredicted branch, or a SIMD instruction of a class. -/
def retiredCauses (i : Instr) (r : RetiredInst) : Bool :=
  match i.event with
  | .brInstRetiredMispred => r.branch.any (·.mispredicted)
  | .simdInstRetiredAny => r.simdClass.isSome
  | _ => false

theorem sampleAddress_x87 {s : State} {y : CoreId} {o : X87Op} (h : s.now = .occ y (.x87Retired o)) (x : CoreId)
    (i : Instr) : s.sampleAddress x i =
      if (y = x && (i = .x87OpsRetiredAny : Bool) && o.counted) = true then some o.next else none := by
  simp only [State.sampleAddress, h]

theorem sampleAddress_load {s : State} {y : CoreId} {l : RetiredLoad} (h : s.now = .occ y (.loadRetired l)) (x : CoreId)
    (i : Instr) : s.sampleAddress x i = if (y = x && s.loadCauses i l) = true then some l.next else none := by
  simp only [State.sampleAddress, h]

/-- Of the instructions a micro-op completes the first that caused the event gives the address (log entry 18). -/
theorem sampleAddress_retired {s : State} {y : CoreId} {u : RetiredUop} (h : s.now = .found y (.retired u)) (x : CoreId)
    (i : Instr) : s.sampleAddress x i =
      if y = x then (u.completes.find? (retiredCauses i)).map (·.next) else none := by
  simp only [State.sampleAddress, h]
  unfold retiredCauses
  split
  · split
    · next he => simp only [he]
    · next he => simp only [he]
    · simp
  · rfl

/-- There is a sample exactly where the moment is an operation that causes the event. -/
theorem sampleAddress_isSome_iff {s : State} {x : CoreId} {i : Instr} : (s.sampleAddress x i).isSome = true ↔
    (∃ o, s.now = .occ x (.x87Retired o) ∧ i = .x87OpsRetiredAny ∧ o.counted = true) ∨
    (∃ l, s.now = .occ x (.loadRetired l) ∧ s.loadCauses i l = true) ∨
    ∃ u, s.now = .found x (.retired u) ∧ ∃ r ∈ u.completes, retiredCauses i r = true := by
  cases hm : s.now with
  | occ y o =>
    cases o with
    | x87Retired o => rw [sampleAddress_x87 hm]; simp [and_assoc]
    | loadRetired l => rw [sampleAddress_load hm]; simp
    | _ => simp [State.sampleAddress, hm]
  | found y f =>
    cases f with
    | retired u =>
      rw [sampleAddress_retired hm]
      by_cases hy : y = x <;> simp [hy]
    | _ => simp [State.sampleAddress, hm]
  | _ => simp [State.sampleAddress, hm]

/-- The address of a sample is that of the instruction after the first one that caused the event (rule R510). -/
theorem sampleAddress_first {s : State} {x : CoreId} {i : Instr} {f : Option Fusion} {before after : List RetiredInst}
    {r : RetiredInst} (h : s.now = .found x (.retired ⟨f, before ++ r :: after⟩))
    (hb : ∀ b ∈ before, retiredCauses i b = false) (hr : retiredCauses i r = true) :
    s.sampleAddress x i = some r.next := by
  have hnone : before.find? (retiredCauses i) = none := List.find?_eq_none.mpr fun b hmem => by simp [hb b hmem]
  rw [sampleAddress_retired h, if_pos rfl, List.find?_append, hnone, Option.none_or, List.find?_cons_of_pos hr,
    Option.map_some]

/-- The address of a sample is that of the instruction after the operation that caused the event (rule R510). -/
theorem eq_next_of_sampleAddress {s : State} {x : CoreId} {i : Instr} {a : Nat} (h : s.sampleAddress x i = some a) :
    (∀ o, s.now = .occ x (.x87Retired o) → a = o.next) ∧ (∀ l, s.now = .occ x (.loadRetired l) → a = l.next) := by
  refine ⟨fun o hm => ?_, fun l hm => ?_⟩
  · rw [sampleAddress_x87 hm, Option.ite_none_right_eq_some] at h
    exact (Option.some.inj h.2).symm
  · rw [sampleAddress_load hm, Option.ite_none_right_eq_some] at h
    exact (Option.some.inj h.2).symm

/-! ## Which events are precise (rule R510) -/

theorem precise_event (i : Instr) : i.event.precise = i.precise :=
  event_induction (P := fun i => i.event.precise = i.precise) (fun _ h => congrArg Instr.precise h) rfl rfl rfl rfl rfl
    rfl rfl i

theorem precise_of_loadCauses {s : State} {i : Instr} {l : RetiredLoad} (h : s.loadCauses i l = true) :
    i.precise = true := by
  unfold State.loadCauses at h
  split at h
  iterate 5 rfl
  simp at h

theorem precise_of_retiredCauses {i : Instr} {r : RetiredInst} (h : retiredCauses i r = true) : i.precise = true := by
  unfold retiredCauses at h
  split at h
  · next he => rw [← precise_event, he]; rfl
  · next he => rw [← precise_event, he]; rfl
  · cases h

/-- No other event has a sample. -/
theorem sampleAddress_of_not_precise {s : State} {x : CoreId} {i : Instr} (h : i.precise = false) :
    s.sampleAddress x i = none := by
  rw [← Option.not_isSome_iff_eq_none, sampleAddress_isSome_iff]
  rintro (⟨o, -, rfl, -⟩ | ⟨l, -, hl⟩ | ⟨u, -, r, -, hr⟩)
  · exact absurd h nofun
  · exact Bool.noConfusion (h.symm.trans (precise_of_loadCauses hl))
  · exact Bool.noConfusion (h.symm.trans (precise_of_retiredCauses hr))

/-- A second name has the samples of the event it names. -/
theorem sampleAddress_event (s : State) (x : CoreId) (i : Instr) : s.sampleAddress x i.event = s.sampleAddress x i :=
  event_induction (P := fun i => s.sampleAddress x i.event = s.sampleAddress x i)
    (fun _ h => congrArg (s.sampleAddress x) h) rfl rfl rfl rfl rfl rfl rfl i

/-! ## What the counter being served gains (rule R12) -/

/-- The served counter gains what the moment is worth. -/
theorem gain_of_countGp {i : Instr} {s : State} {w : CoreId → Nat} {x : CoreId} {k : Nat} {rest : List CounterId}
    (he : exec i s = countGp s w) (ht : s.turn = .gp x k :: rest) (hc : s.hasCounter (.gp x k) = true) :
    gain i s = w x := by
  simp only [gain, he, countGp_served s w ht, ht, addTo_nominal_same s _ _ hc]
  omega

theorem Indicates.pos_iff {n : Nat} {p : Prop} (h : Indicates n p) : 0 < n ↔ p := by
  by_cases hp : p
  · simp [h.1 hp, hp]
  · simp [h.2 hp, hp]

/-- An event that counts occurrences in its own core. -/
theorem indicates_onOcc {s : State} {x : CoreId} {w : Occ → Nat} {p : Prop}
    (h : ∀ o, s.now = .occ x o → Indicates (w o) p) (hp : p → ∃ o, s.now = .occ x o) : Indicates (s.onOcc x w) p := by
  unfold State.onOcc
  split
  · next y o hm =>
    split
    · next hy => exact h o (hy ▸ hm)
    · next hy =>
      refine indicates_zero fun hq => ?_
      obtain ⟨o', ho⟩ := hp hq
      exact hy (Moment.occ.inj (hm.symm.trans ho)).1
  · next hn =>
    refine indicates_zero fun hq => ?_
    obtain ⟨o, hm⟩ := hp hq
    exact hn x o hm

theorem indicates_onRetiredLoad (s : State) (x : CoreId) (i : Instr) :
    Indicates (s.onRetiredLoad x i) (∃ l, s.now = .occ x (.loadRetired l) ∧ s.loadCauses i l = true) := by
  refine indicates_onOcc (fun o hm => ?_) fun ⟨l, hm, _⟩ => ⟨_, hm⟩
  rw [hm]
  split
  · exact indicates_toNat (by simp)
  · next hn => exact indicates_zero fun ⟨_, e, _⟩ => hn _ (Moment.occ.inj e).2

theorem onRetired_pos_iff {s : State} {x : CoreId} {p : RetiredInst → Bool} :
    0 < s.onRetired x p ↔ ∃ u, s.now = .found x (.retired u) ∧ ∃ r ∈ u.completes, p r = true := by
  by_cases h : ∃ y u, s.now = .found y (.retired u)
  · obtain ⟨y, u, hm⟩ := h
    rw [onRetired_of_retired hm, hm]
    by_cases hy : y = x <;> simp [hy, List.countP_pos_iff]
  · rw [onRetired_of_not_retired fun y u hm => h ⟨y, u, hm⟩]
    exact ⟨fun hpos => absurd hpos (Nat.lt_irrefl 0), fun ⟨u, hm, _⟩ => absurd ⟨x, u, hm⟩ h⟩

section

variable {s : State} {x : CoreId} {k : Nat} {rest : List CounterId} (ht : s.turn = .gp x k :: rest)
  (hc : s.hasCounter (.gp x k) = true)

include ht hc

theorem sample_iff_gain_of_x87 :
    (s.sampleAddress x .x87OpsRetiredAny).isSome = true ↔ 0 < gain .x87OpsRetiredAny s := by
  have hgain : 0 < gain .x87OpsRetiredAny s ↔ ∃ o, s.now = .occ x (.x87Retired o) ∧ o.counted = true := by
    rw [gain_of_countGp rfl ht hc]
    refine (indicates_onOcc (fun o hm => ?_) fun ⟨o, hm, _⟩ => ⟨_, hm⟩).pos_iff
    rw [hm]
    split
    · exact indicates_toNat (by simp)
    · next hn => exact indicates_zero fun ⟨_, e, _⟩ => hn _ (Moment.occ.inj e).2
  simp [sampleAddress_isSome_iff, hgain, State.loadCauses, retiredCauses, Instr.event]

theorem sample_iff_gain_of_load {i : Instr} (he : exec i s = countGp s fun x => s.onRetiredLoad x i)
    (hx : i ≠ .x87OpsRetiredAny) (hr : ∀ r, retiredCauses i r = false) :
    (s.sampleAddress x i).isSome = true ↔ 0 < gain i s := by
  rw [gain_of_countGp he ht hc, (indicates_onRetiredLoad s x i).pos_iff, sampleAddress_isSome_iff]
  simp [hx, hr]

theorem sample_iff_gain_of_retired {i : Instr} (he : exec i s = countGp s fun x => s.onRetired x (retiredCauses i))
    (hx : i ≠ .x87OpsRetiredAny) (hl : ∀ l, s.loadCauses i l = false) :
    (s.sampleAddress x i).isSome = true ↔ 0 < gain i s := by
  rw [gain_of_countGp he ht hc, onRetired_pos_iff, sampleAddress_isSome_iff]
  simp [hx, hl]

/-- A precise event has a sample where its counter gains: each of the three kinds by the operation that causes it. -/
theorem sample_iff_gain {i : Instr} (hi : i.precise = true) :
    (s.sampleAddress x i).isSome = true ↔ 0 < gain i s := by
  cases i
  case x87OpsRetiredAny => exact sample_iff_gain_of_x87 ht hc
  case memLoadRetiredL1dMiss | memLoadRetiredL1dLineMiss | memLoadRetiredL2Miss | memLoadRetiredL2LineMiss |
      memLoadRetiredDtlbMiss =>
    exact sample_iff_gain_of_load ht hc rfl nofun fun _ => rfl
  case brInstRetiredMispred | archBranchMissesRetired | simdInstRetiredAny =>
    exact sample_iff_gain_of_retired ht hc rfl nofun fun _ => Bool.and_false _
  all_goals cases hi

end

/-- Settles O58: where a sample is, what it holds, which cause comes first, and which events have one. -/
theorem sampleHoldsTheNextAddress : Obligations.SampleHoldsTheNextAddress := by
  refine ⟨fun i s x k rest hi ht hc => sample_iff_gain ht hc hi, fun i s x a h => eq_next_of_sampleAddress h,
    fun s x f before after r hm => ⟨fun hb hr => ?_, fun hb hr => ?_⟩,
    fun i s x => ⟨(precise_event i).symm, (sampleAddress_event s x i).symm, sampleAddress_of_not_precise⟩⟩
  · exact ⟨sampleAddress_first hm hb hr, sampleAddress_first hm hb hr⟩
  · have hbefore : ∀ b ∈ before, b.simdClass.isSome = false := fun b hmem => by rw [hb b hmem, Option.isSome_none]
    exact sampleAddress_first hm hbefore (Option.isSome_iff_ne_none.mpr hr)

end Sys2Proof.Machine
end

section
/-! Counts whose conditions imply each other, and the stalls of any cause (O44): a relation between gains is read off the
amounts that the moment is worth to the core of the counter being served. -/

namespace Sys2Proof.Machine

/-! ## From amounts to gains (rules R8 and R12) -/

/-- The general-purpose counter at place `k` of a core, where there is one, gains the amount; of the core itself nothing
is asked. -/
theorem addTo_nominal_gp {s : State} {x : CoreId} {k : Nat} {g : GpCounter} (hg : (s.core x).gp[k]? = some g) (n : Nat) :
    (s.addTo (.gp x k) n).nominal (.gp x k) = s.nominal (.gp x k) + n := by
  by_cases hn : n = 0
  · simp [hn]
  · obtain ⟨hk, rfl⟩ := List.getElem?_eq_some_iff.1 hg
    rw [addTo_gp s x k n _ hg hn]
    simp [State.nominal, State.bumpGp, hk]

/-- Whatever the state, it serves all events of Tables A-1 and A-3 alike: each gains what the moment is worth to one and
the same core, or none of them gains anything. -/
theorem gain_eq_amount_or_zero (s : State) :
    (∃ x, ∀ {i w}, exec i s = countGp s w → gain i s = w x) ∨ ∀ {i w}, exec i s = countGp s w → gain i s = 0 := by
  cases ht : s.turn with
  | nil => exact .inr fun he => by simp [gain, he, countGp, ht]
  | cons c rest => cases c with
    | fixed x f => exact .inr fun he => by simp [gain, he, countGp, ht]
    | gp x k => cases hg : (s.core x).gp[k]? with
      | none => exact .inr fun he => by simp [gain, he, countGp, ht, addTo_gp_none s x k _ hg]
      | some g => exact .inl ⟨x, fun he => by simp [gain, he, countGp, ht, addTo_nominal_gp hg]⟩

/-- Where every amount of one event is at most that of another, so is its gain. -/
theorem gain_le_gain {s : State} {i j : Instr} {v w : CoreId → Nat} (hi : exec i s = countGp s v)
    (hj : exec j s = countGp s w) (h : ∀ x, v x ≤ w x) : gain i s ≤ gain j s := by
  obtain ⟨x, hg⟩ | hg := gain_eq_amount_or_zero s
  · rw [hg hi, hg hj]
    exact h x
  · rw [hg hi]
    exact Nat.zero_le _

/-! ## Amounts of cycles (rule R14) -/

/-- A row that names no clock adds its amount at the cycles of UNNAMED_CYCLE_CLOCK (D8). -/
theorem onCycle_eq_ite (s : State) (x : CoreId) (n : Nat) :
    s.onCycle x n = if s.now = .tick (unnamedTick s x) then n else 0 := by
  unfold State.onCycle unnamedTick
  cases s.params.unnamedClock <;> rfl

theorem onCycle_add (s : State) (x : CoreId) (a b : Nat) : s.onCycle x (a + b) = s.onCycle x a + s.onCycle x b := by
  simp only [onCycle_eq_ite]
  split <;> rfl

theorem onCycle_le (s : State) (x : CoreId) (n : Nat) : s.onCycle x n ≤ n := (onCycle_atTick s x n).2

theorem toNat_le_of_imp {a b : Bool} (h : a = true → b = true) : a.toNat ≤ b.toNat :=
  Bool.toNat_le_toNat (Bool.le_iff_imp.mpr h)

/-- A condition that implies another holds in no more cycles. -/
theorem onCycle_le_of_imp {s : State} {x : CoreId} {a b : Bool} (h : a = true → b = true) :
    s.onCycle x a.toNat ≤ s.onCycle x b.toNat := by
  simp only [onCycle_eq_ite]
  split
  · exact toNat_le_of_imp h
  · exact Nat.le_refl 0

theorem onBusCycle_le_of_imp {s : State} {a b : Bool} (h : a = true → b = true) :
    s.onBusCycle a.toNat ≤ s.onBusCycle b.toNat := by
  unfold State.onBusCycle
  split
  · exact toNat_le_of_imp h
  · exact Nat.le_refl 0

theorem toNat_or_le (a b : Bool) : (a || b).toNat ≤ a.toNat + b.toNat := by
  cases a
  · simp
  · exact Nat.le_add_right 1 _

theorem toNat_or_eq_add {a b : Bool} (h : a = true → b = false) : (a || b).toNat = a.toNat + b.toNat := by
  cases a
  · simp
  · simp [h rfl]

/-- A cycle in which one of two conditions holds, counted once, is one of the cycles of the one or of the other. -/
theorem onCycle_or_le (s : State) (x : CoreId) (a b : Bool) :
    s.onCycle x (a || b).toNat ≤ s.onCycle x a.toNat + s.onCycle x b.toNat := by
  rw [← onCycle_add]
  simp only [onCycle_eq_ite]
  split
  · exact toNat_or_le a b
  · exact Nat.le_refl 0

/-! ## Amounts of occurrences (rule R12) -/

theorem onOcc_le {s : State} {x : CoreId} {v w : Occ → Nat} (h : ∀ o, v o ≤ w o) : s.onOcc x v ≤ s.onOcc x w := by
  unfold State.onOcc
  split
  · split
    · exact h _
    · exact Nat.le_refl 0
  · exact Nat.le_refl 0

theorem onFound_add (s : State) (x : CoreId) (v w : Found → Nat) :
    s.onFound x (fun f => v f + w f) = s.onFound x v + s.onFound x w := by
  unfold State.onFound
  split
  · split <;> rfl
  · rfl

/-- The instructions that satisfy one of two conditions are at most those of the one and those of the other. -/
theorem countP_le_add {α : Type} {p q r : α → Bool} (h : ∀ a, p a = true → q a = true ∨ r a = true) (l : List α) :
    l.countP p ≤ l.countP q + l.countP r := by
  rw [List.countP_eq_countP_filter_add l p q, List.countP_filter, List.countP_filter]
  refine Nat.add_le_add (List.countP_mono_left fun a _ hpq => ?_) (List.countP_mono_left fun a _ hpq => ?_)
  · exact (Bool.and_eq_true_iff.mp hpq).2
  · obtain ⟨hp, hq⟩ := Bool.and_eq_true_iff.mp hpq
    exact (h a hp).resolve_left (by simpa using hq)

theorem onRetired_le_add {s : State} {x : CoreId} {p q r : RetiredInst → Bool}
    (h : ∀ i, p i = true → q i = true ∨ r i = true) : s.onRetired x p ≤ s.onRetired x q + s.onRetired x r := by
  by_cases hm : ∃ y u, s.now = .found y (.retired u)
  · obtain ⟨y, u, hm⟩ := hm
    simp only [onRetired_of_retired hm]
    split
    · exact countP_le_add h _
    · exact Nat.le_refl 0
  · rw [onRetired_of_not_retired fun y u hn => hm ⟨y, u, hn⟩]
    exact Nat.zero_le _

/-! ## The relations -/

/-- Rule R296: no page is small and large at once, so a fetch that misses is counted by size in one of the two rows. -/
theorem gain_itlbMisses {s : State} (h : s.params.smallPage ≠ s.params.largePage) :
    gain .itlbMisses s = gain .itlbSmallMiss s + gain .itlbLargeMiss s := by
  obtain ⟨x, hg⟩ | hg := gain_eq_amount_or_zero s
  · rw [hg (i := .itlbMisses) rfl, hg (i := .itlbSmallMiss) rfl, hg (i := .itlbLargeMiss) rfl, ← onFound_add]
    refine congrArg (s.onFound x) (funext fun f => ?_)
    split
    · next f missed =>
      have hexcl : f.page.small s.params = true → f.page.large s.params = false := by
        simpa [CodePage.small, CodePage.large] using fun e => e ▸ h
      rw [Bool.and_or_distrib_left]
      exact toNat_or_eq_add fun hs => by rw [hexcl (Bool.and_eq_true_iff.mp hs).2, Bool.and_false]
    · rfl
  · rw [hg (i := .itlbMisses) rfl, hg (i := .itlbSmallMiss) rfl, hg (i := .itlbLargeMiss) rfl]

/-- Rules R315 and R554: the micro-ops dispatched in a cycle are those of the six ports. -/
theorem gain_rsUopsDispatched (s : State) :
    gain .rsUopsDispatched s = gain .rsUopsDispatchedPort0 s + gain .rsUopsDispatchedPort1 s +
      gain .rsUopsDispatchedPort2 s + gain .rsUopsDispatchedPort3 s + gain .rsUopsDispatchedPort4 s +
      gain .rsUopsDispatchedPort5 s := by
  obtain ⟨x, hg⟩ | hg := gain_eq_amount_or_zero s <;>
    rw [hg (i := .rsUopsDispatched) rfl, hg (i := .rsUopsDispatchedPort0) rfl, hg (i := .rsUopsDispatchedPort1) rfl,
      hg (i := .rsUopsDispatchedPort2) rfl, hg (i := .rsUopsDispatchedPort3) rfl,
      hg (i := .rsUopsDispatchedPort4) rfl, hg (i := .rsUopsDispatchedPort5) rfl]
  simp only [Pipe.dispatched, onCycle_add]

/-- Rule R337: an instruction that neither loads nor stores is in the third row. -/
theorem gain_instRetiredAnyP_le (s : State) :
    gain .instRetiredAnyP s ≤ gain .instRetiredLoads s + gain .instRetiredStores s + gain .instRetiredOther s := by
  obtain ⟨x, hg⟩ | hg := gain_eq_amount_or_zero s <;>
    rw [hg (i := .instRetiredAnyP) rfl, hg (i := .instRetiredLoads) rfl, hg (i := .instRetiredStores) rfl,
      hg (i := .instRetiredOther) rfl]
  have hload := onRetired_le_add (s := s) (x := x) (p := fun _ => true) (q := fun r => r.load) (r := fun r => !r.load)
    fun r _ => by cases r.load <;> simp
  have hstore := onRetired_le_add (s := s) (x := x) (p := fun r => !r.load) (q := fun r => r.store.isSome)
    (r := fun r => !r.load && r.store.isNone) fun r hl => by cases r.store <;> simp [hl]
  omega

/-- Rule R401: a bogus branch results in a resteer of the front end. -/
theorem gain_bogusBr_le (s : State) : gain .bogusBr s ≤ gain .baclears s := by
  refine gain_le_gain rfl rfl fun x => onOcc_le fun o => ?_
  split
  · exact Nat.le_refl 1
  · exact Nat.zero_le _

/-- Rule R313: a penalty of a taken branch is one bubble or two, so one of the two rows counts it. -/
theorem gain_brTknBubble {s : State} {x : CoreId} {k : Nat} {rest : List CounterId} (ht : s.turn = .gp x k :: rest)
    (hc : s.hasCounter (.gp x k) = true) (hm : s.now = .occ x .takenBubble) :
    gain .brTknBubble1 s + gain .brTknBubble2 s = 1 := by
  rw [gain_of_countGp (i := .brTknBubble1) rfl ht hc, gain_of_countGp (i := .brTknBubble2) rfl ht hc]
  simp only [State.onOcc, hm, if_pos]
  cases s.unstated .bubbleOne <;> rfl

/-- Rule R383: a stall of any of the four conditions, counted once, is one of the three that have rows in cycles, or a
stall of a write of the FPU status word. -/
theorem gain_ratStallsAny_le {s : State} {x : CoreId} {k : Nat} {rest : List CounterId} (ht : s.turn = .gp x k :: rest)
    (hc : s.hasCounter (.gp x k) = true) :
    gain .ratStallsAny s ≤ gain .ratStallsRobReadPort s + gain .ratStallsPartialCycles s + gain .ratStallsFlags s +
      (s.core x).fpswStalling.toNat := by
  rw [gain_of_countGp (i := .ratStallsAny) rfl ht hc, gain_of_countGp (i := .ratStallsRobReadPort) rfl ht hc,
    gain_of_countGp (i := .ratStallsPartialCycles) rfl ht hc, gain_of_countGp (i := .ratStallsFlags) rfl ht hc]
  unfold Core.ratStalled
  grw [onCycle_or_le, onCycle_or_le, onCycle_or_le, onCycle_le s x (s.core x).fpswStalling.toNat]

theorem gain_ratStallsAny_of_fpswStalling {s : State} {x : CoreId} {k : Nat} {rest : List CounterId}
    (ht : s.turn = .gp x k :: rest) (hc : s.hasCounter (.gp x k) = true) (hm : s.now = .tick (unnamedTick s x))
    (hf : (s.core x).fpswStalling = true) : gain .ratStallsAny s = 1 := by
  rw [gain_of_countGp (i := .ratStallsAny) rfl ht hc, onCycle_eq_ite, if_pos hm]
  simp [Core.ratStalled, hf]

/-- Rule R399: a stall of any of the five conditions, counted once, is one of the five. -/
theorem gain_resourceStallsAny_le (s : State) :
    gain .resourceStallsAny s ≤ gain .resourceStallsRobFull s + gain .resourceStallsRsFull s +
      gain .resourceStallsLdSt s + gain .resourceStallsFpcw s + gain .resourceStallsBrMissClear s := by
  obtain ⟨x, hg⟩ | hg := gain_eq_amount_or_zero s <;>
    rw [hg (i := .resourceStallsAny) rfl, hg (i := .resourceStallsRobFull) rfl, hg (i := .resourceStallsRsFull) rfl,
      hg (i := .resourceStallsLdSt) rfl, hg (i := .resourceStallsFpcw) rfl, hg (i := .resourceStallsBrMissClear) rfl]
  unfold State.resourceStalled
  grw [onCycle_or_le, onCycle_or_le, onCycle_or_le, onCycle_or_le]

/-- Where the condition of one row without a clock of its own implies that of another, so are their gains ordered. -/
theorem gain_le_of_imp {s : State} {i j : Instr} {a b : CoreId → Bool}
    (hi : exec i s = countGp s fun x => s.onCycle x (a x).toNat)
    (hj : exec j s = countGp s fun x => s.onCycle x (b x).toNat) (h : ∀ x, a x = true → b x = true) :
    gain i s ≤ gain j s := gain_le_gain hi hj fun x => onCycle_le_of_imp (h x)

/-- Settles O44: sums and orders of gains, from those of the amounts of the rows. -/
theorem relatedCountsAgree : Obligations.RelatedCountsAgree := by
  intro s
  refine ⟨?rows, fun x k rest ht hc => ?ratStalls, ?resourceStalls⟩
  case rows =>
    refine ⟨gain_itlbMisses, gain_rsUopsDispatched s, gain_instRetiredAnyP_le s, ?masked, ?divider, ?otherHalted,
      gain_bogusBr_le s⟩
    case masked => exact gain_le_of_imp rfl rfl fun x h => (Bool.and_eq_true_iff.mp h).1
    case divider =>
      refine gain_le_of_imp rfl rfl fun x h => ?_
      obtain ⟨hdivider, -⟩ := Bool.and_eq_true_iff.mp (Bool.and_eq_true_iff.mp h).1
      exact hdivider
    case otherHalted => exact gain_le_gain rfl rfl fun x => onBusCycle_le_of_imp fun h => (Bool.and_eq_true_iff.mp h).1
  case ratStalls =>
    refine ⟨gain_brTknBubble ht hc, ?_, ?_, ?_, gain_ratStallsAny_of_fpswStalling ht hc, gain_ratStallsAny_le ht hc⟩
    all_goals exact gain_le_of_imp rfl rfl fun y h => by simp [Core.ratStalled, h]
  case resourceStalls =>
    refine ⟨?_, ?_, ?_, ?_, ?_, gain_resourceStallsAny_le s⟩
    all_goals exact gain_le_of_imp rfl rfl fun x h => by simp [State.resourceStalled, h]

end Sys2Proof.Machine
end

section
/-! Counts of composed rows that add up (O43): under one unit mask the rows read the same settings, and each occurrence
that the sum counts meets the condition of just one of the summands. -/

namespace Sys2Proof.Machine

/-! ## From amounts to gains of composed rows (rules R105 and R114) -/

/-- Under a unit mask that its tables accept, a composed row counts as a row of Table A-3 with those settings. -/
theorem countQualified_listed {s : State} {qs : List Qualifier} {u : Byte} {q : Settings}
    (hq : decodeSettings s.params qs u = some q) (w : Settings → CoreId → Nat) :
    countQualified s qs u w = countGp s (w q) := by
  simp [countQualified, hq]

theorem gain_of_exec_eq_self {i : Instr} {s : State} (he : exec i s = .next s) : gain i s = 0 := by
  cases ht : s.turn <;> simp [gain, he, ht]

/-- Whatever the state, it serves all rows composed from the same qualifiers alike under one unit mask: each gains what
the moment is worth to one and the same core under the same settings, or none of them gains anything. -/
theorem gain_eq_qualified_amount_or_zero (s : State) (qs : List Qualifier) (u : Byte) :
    (∃ q x, ∀ {i w}, exec i s = countQualified s qs u w → gain i s = w q x) ∨
      ∀ {i w}, exec i s = countQualified s qs u w → gain i s = 0 := by
  cases hq : decodeSettings s.params qs u with
  | none => exact .inr fun he => gain_of_exec_eq_self (he.trans (countQualified_unlisted s qs u _ hq))
  | some q =>
    obtain ⟨x, hg⟩ | hg := gain_eq_amount_or_zero s
    · exact .inl ⟨q, x, fun he => hg (he.trans (countQualified_listed hq _))⟩
    · exact .inr fun he => hg (he.trans (countQualified_listed hq _))

/-! ## References to the L1 data cache (rules R250 to R252 and R255) -/

/-- A reference that satisfies one of two conditions, and never both, is counted under just one of them. -/
theorem onDataRef_or {s : State} {x : CoreId} {p r : DataRef → LineState → LineState → Bool}
    (h : ∀ a st st', p a st st' = true → r a st st' = false) :
    s.onDataRef x (fun a st st' => p a st st' || r a st st') = s.onDataRef x p + s.onDataRef x r := by
  unfold State.onDataRef
  rw [← onFound_add]
  refine congrArg (s.onFound x) (funext fun f => ?_)
  split
  · exact toNat_or_eq_add (h _ _ _)
  · rfl

theorem mesiSel_all {q : Settings} (h : q.mesi = .all) (st : LineState) : q.mesiSel st = true := by
  cases st <;> simp [Settings.mesiSel, h, MesiSetting.all]

/-- With all four line states selected a reference counts whichever lines it touches, so no split access is open. -/
theorem mesiOf_all {q : Settings} (h : q.mesi = .all) (s : State) (st st' : LineState) : s.mesiOf q st st' = true := by
  rw [mesiOf_eq s q st st' (by rw [mesiSel_all h, mesiSel_all h]), mesiSel_all h]

/-- Rule R255: a reference to cacheable memory other than a locked write is a read, a write or a locked read, and just
one of them (log entry 16). -/
theorem gain_l1dAllCacheRef {s : State} {u : Byte} {q : Settings} (hq : decodeSettings s.params [.mesi] u = some q)
    (hall : q.mesi = .all) :
    gain .l1dAllCacheRef s = gain (.l1dCacheLd u) s + gain (.l1dCacheSt u) s + gain (.l1dCacheLock u) s := by
  obtain ⟨x, hg⟩ | hg := gain_eq_amount_or_zero s <;>
    rw [hg (i := .l1dAllCacheRef) rfl, hg (i := .l1dCacheLd u) (countQualified_listed hq _),
      hg (i := .l1dCacheSt u) (countQualified_listed hq _), hg (i := .l1dCacheLock u) (countQualified_listed hq _)]
  simp only [mesiOf_all hall, Bool.and_true]
  rw [← onDataRef_or fun a _ _ => ?ldSt, ← onDataRef_or fun a _ _ => ?lock]
  · refine congrArg (s.onDataRef x) (funext fun a => funext fun _ => funext fun _ => ?_)
    cases a.write <;> cases a.locked <;> simp
  case ldSt => cases a.write <;> simp
  case lock => cases a.locked <;> simp

/-! ## Bus transactions (rules R276, R278 and R281 to R283) -/

theorem onSys_add (s : State) (v w : SysOcc → Nat) : s.onSys (fun o => v o + w o) = s.onSys v + s.onSys w := by
  unfold State.onSys
  split <;> rfl

/-- A transaction that satisfies one of two conditions, and never both, is counted under just one of them. -/
theorem onBusTrans_or {s : State} {q : Settings} {x : CoreId} {p r : BusTrans → Bool}
    (h : ∀ t, p t = true → r t = false) :
    s.onBusTrans q x (fun t => p t || r t) = s.onBusTrans q x p + s.onBusTrans q x r := by
  unfold State.onBusTrans
  rw [← onSys_add]
  refine congrArg s.onSys (funext fun o => ?_)
  split
  · next t =>
    rw [Bool.and_or_distrib_left]
    exact toNat_or_eq_add fun hp => by rw [h t (Bool.and_eq_true_iff.mp hp).2, Bool.and_false]
  · rfl

/-- Every transaction that a condition selects is one of any kind. -/
theorem onBusTrans_le_any (s : State) (q : Settings) (x : CoreId) (p : BusTrans → Bool) :
    s.onBusTrans q x p ≤ s.onBusTrans q x fun _ => true := by
  have hsplit := onBusTrans_or (s := s) (q := q) (x := x) (p := p) (r := fun t => !p t) fun t hp => by rw [hp]; rfl
  simp only [Bool.or_not_self] at hsplit
  omega

/-- A burst is neither a partial transaction nor an invalidate. -/
theorem isBurst_excludes {s : State} {k : BusKind} (h : s.isBurst k = true) :
    k.isPartial = false ∧ k ≠ .invalidate := by
  revert h
  cases k <;> simp [State.isBurst, BusKind.isPartial]

theorem BusKind.isPartial_excludes {k : BusKind} (h : k.isPartial = true) : k ≠ .invalidate := by
  rintro rfl
  cases h

/-- Rule R282: a memory transaction is a burst, a partial transaction or an invalidate, and just one of them. -/
theorem onBusTrans_memory (s : State) (q : Settings) (x : CoreId) :
    s.onBusTrans q x (fun t => s.isBurst t.kind || t.kind.isPartial || (t.kind = .invalidate : Bool)) =
      s.onBusTrans q x (fun t => s.isBurst t.kind) + s.onBusTrans q x (fun t => t.kind.isPartial) +
        s.onBusTrans q x fun t => (t.kind = .invalidate : Bool) := by
  rw [onBusTrans_or fun t h => decide_eq_false ?invalidate, onBusTrans_or fun t h => (isBurst_excludes h).1]
  case invalidate =>
    obtain hburst | hpartial := Bool.or_eq_true_iff.mp h
    · exact (isBurst_excludes hburst).2
    · exact BusKind.isPartial_excludes hpartial

/-- Settles O43: in each sum the conditions of the summands exclude each other, and together are that of the sum. -/
theorem qualifiedCountsAddUp : Obligations.QualifiedCountsAddUp := by
  refine ⟨fun s u q => gain_l1dAllCacheRef, fun s u => ?_⟩
  obtain ⟨q, x, hg⟩ | hg := gain_eq_qualified_amount_or_zero s [.core, .agent] u <;>
    rw [hg (i := .busTransMem u) rfl, hg (i := .busTransBurst u) rfl, hg (i := .busTransP u) rfl,
      hg (i := .busTransInvalid u) rfl, hg (i := .busTransAny u) rfl]
  · exact ⟨onBusTrans_memory s q x, onBusTrans_le_any s q x _⟩
  · exact ⟨rfl, Nat.le_refl 0⟩

end Sys2Proof.Machine
end

section
/-! The branches executed (rules R300 to R312): RET instructions (O13) and CALL instructions (O14). -/

namespace Sys2Proof.Machine

/-- An event writes nothing beside the counters and the number of free values drawn (rules R12 and R18). -/
theorem activity_of_exec {i : Instr} {s t : State} (h : exec i s = .next t) : t.activity = s.activity := by
  obtain ⟨t', ht', hactivity⟩ := exec_next i s
  obtain rfl : t' = t := Host.Outcome.next.inj (ht'.symm.trans h)
  exact hactivity

/-- A row that counts executed branches by a condition on them counts no branch of micro-code (log entry 27). -/
theorem countsEach_of_onBranch {i : Instr} {c : State → Branch → Bool} {p : State → Branch → Prop}
    (he : ∀ s, exec i s = countGp s fun x => s.onBranch x (c s)) (h : ∀ s b, c s b = true ↔ p s b) :
    CountsEach i fun s x m => ∃ b, m = .occ x (.branchExecuted b) ∧ b.microOp = false ∧ p s b := by
  refine countsEach_of_occ he (fun _ _ _ ⟨_, e, _⟩ => ⟨_, e⟩) fun s x o => ?_
  split
  · exact indicates_toNat (by simp [h])
  · next hn => exact indicates_zero fun ⟨_, e, _⟩ => hn _ (Moment.occ.inj e).2

/-- Both kinds of CALL are CALL instructions (rule R312). -/
theorem BranchKind.isCall_iff {k : BranchKind} : k.isCall = true ↔ k = .call ∨ k = .indirectCall := by
  rw [BranchKind.isCall, Bool.or_eq_true, decide_eq_true_iff, decide_eq_true_iff]

/-- Settles O13: the row counts the executed branches of the kind RET, and its pair decodes to it. -/
theorem retExecutedRule : Obligations.RetExecutedRule :=
  ⟨rfl, decodeEncoding_encode .brRetExec rfl, fun _ _ => activity_of_exec,
    countsEach_of_onBranch (fun _ => rfl) fun _ _ => decide_eq_true_iff⟩

/-- Settles O14: the row counts the executed branches of either kind of CALL, and its pair decodes to it. -/
theorem callExecutedRule : Obligations.CallExecutedRule :=
  ⟨rfl, decodeEncoding_encode .brCallExec rfl, fun _ _ => activity_of_exec,
    countsEach_of_onBranch (fun _ => rfl) fun _ _ => BranchKind.isCall_iff⟩

end Sys2Proof.Machine
end

section
/-! Micro-ops executed and retired (O15 and O16), and the rows whose counts add up (O42): each thing that the row of the
sum counts is counted in just one of the rows added. -/

namespace Sys2Proof.Machine

/-! ## Micro-ops executed and retired (rules R327 and R344) -/

/-- A row that counts executed SIMD micro-ops by a condition on them. -/
theorem countsEach_of_simdUop {i : Instr} {c : SimdUop → Bool} {w : Occ → Nat}
    (he : ∀ s, exec i s = countGp s fun x => s.onOcc x w) (hit : ∀ u, w (.simdUop u) = (c u).toNat)
    (miss : ∀ o, (∀ u, o ≠ .simdUop u) → w o = 0) :
    CountsEach i fun _ x m => ∃ u, m = .occ x (.simdUop u) ∧ c u = true := by
  refine countsEach_of_occ he (fun _ _ _ ⟨_, e, _⟩ => ⟨_, e⟩) fun s x o => ?_
  by_cases h : ∃ u, o = .simdUop u
  · obtain ⟨u, rfl⟩ := h
    rw [hit]
    exact indicates_toNat (by simp)
  · rw [miss o fun u e => h ⟨u, e⟩]
    exact indicates_zero fun ⟨u, e, _⟩ => h ⟨u, (Moment.occ.inj e).2⟩

/-- A row that counts retired micro-ops by a condition on their fusion. -/
theorem countsEach_of_onUop {i : Instr} {c : Option Fusion → Bool} {p : RetiredUop → Prop}
    (he : ∀ s, exec i s = countGp s fun x => s.onUop x c) (h : ∀ u, c u.fusion = true ↔ p u) :
    CountsEach i fun _ x m => ∃ u, m = .found x (.retired u) ∧ p u := by
  refine countsEach_of_found he (fun _ _ _ ⟨_, e, _⟩ => ⟨_, e⟩) fun s x f => ?_
  split
  · exact indicates_toNat (by simp [h])
  · next hn => exact indicates_zero fun ⟨_, e, _⟩ => hn _ (Moment.found.inj e).2

/-- Settles O15: the row counts the executed SIMD micro-ops that are saturated, and its pair decodes to it. -/
theorem saturatedSimdUopRule : Obligations.SaturatedSimdUopRule :=
  ⟨rfl, decodeEncoding_encode .simdSatUopExec rfl, fun _ _ => activity_of_exec,
    countsEach_of_simdUop (fun _ => rfl) (fun _ => rfl) fun o ho => by
      split
      · next u => exact absurd rfl (ho u)
      · rfl⟩

/-- Settles O16: the row counts the retired micro-ops that have no fusion, and its pair decodes to it. -/
theorem nonFusedUopRule : Obligations.NonFusedUopRule :=
  ⟨rfl, decodeEncoding_encode .uopsRetiredNonFused rfl, fun _ _ => activity_of_exec,
    countsEach_of_onUop (fun _ => rfl) fun _ => Option.isNone_iff_eq_none⟩

/-! ## Amounts of retired micro-ops and instructions (rules R12 and R334) -/

/-- What a moment is worth to a row that counts retired micro-ops of core `x`, each by an amount of its own. -/
def State.uopWorth (s : State) (x : CoreId) (v : RetiredUop → Nat) : Nat :=
  s.onFound x fun
    | .retired u => v u
    | _ => 0

theorem uopWorth_add (s : State) (x : CoreId) (v w : RetiredUop → Nat) :
    s.uopWorth x (fun u => v u + w u) = s.uopWorth x v + s.uopWorth x w := by
  unfold State.uopWorth
  rw [← onFound_add]
  refine congrArg (s.onFound x) (funext fun f => ?_)
  cases f <;> rfl

theorem onUop_eq_uopWorth (s : State) (x : CoreId) (p : Option Fusion → Bool) :
    s.onUop x p = s.uopWorth x fun u => (p u.fusion).toNat := rfl

theorem countP_eq_sum_toNat {α : Type} (p : α → Bool) (l : List α) : l.countP p = (l.map fun a => (p a).toNat).sum := by
  induction l with
  | nil => rfl
  | cons a l ih =>
    rw [List.countP_cons, List.map_cons, List.sum_cons, ih, Nat.add_comm]
    cases p a <;> rfl

/-- A micro-op is worth what the instructions that it completes are worth. -/
theorem onRetired_eq_uopWorth (s : State) (x : CoreId) (p : RetiredInst → Bool) :
    s.onRetired x p = s.uopWorth x fun u => (u.completes.map fun r => (p r).toNat).sum := by
  refine congrArg (s.onFound x) (funext fun f => ?_)
  cases f with
  | retired u => exact countP_eq_sum_toNat p u.completes
  | _ => rfl

/-! ## In which rows one micro-op, instruction or segment register is counted -/

/-- A fused micro-op has one type of fusion and no second one (log entry 29). -/
theorem toNat_fused (f : Option Fusion) : f.isSome.toNat =
    (f = some .loadOp || f = some .loadIndirectBranch : Bool).toNat + (f = some .storeAddressData : Bool).toNat +
      (f = some .macroFusion : Bool).toNat := by
  obtain _ | f := f
  · rfl
  · cases f <;> rfl

theorem toNat_fused_or_not (f : Option Fusion) : true.toNat = f.isSome.toNat + f.isNone.toNat := by
  cases f <;> rfl

/-- A retired branch was taken or not, and mispredicted or not. -/
theorem toNat_branch (b : Option BranchOutcome) : (b.any fun _ => true).toNat =
    (b.any fun o => !o.mispredicted && !o.taken).toNat + (b.any fun o => o.mispredicted && !o.taken).toNat +
      (b.any fun o => !o.mispredicted && o.taken).toNat + (b.any fun o => o.mispredicted && o.taken).toNat := by
  obtain _ | ⟨taken, mispredicted⟩ := b
  · rfl
  · cases taken <;> cases mispredicted <;> rfl

theorem toNat_taken (b : Option BranchOutcome) : (b.any fun o => o.taken).toNat =
    (b.any fun o => !o.mispredicted && o.taken).toNat + (b.any fun o => o.mispredicted && o.taken).toNat := by
  obtain _ | ⟨taken, mispredicted⟩ := b
  · rfl
  · cases taken <;> cases mispredicted <;> rfl

theorem toNat_mispredicted (b : Option BranchOutcome) : (b.any fun o => o.mispredicted).toNat =
    (b.any fun o => o.mispredicted && !o.taken).toNat + (b.any fun o => o.mispredicted && o.taken).toNat := by
  obtain _ | ⟨taken, mispredicted⟩ := b
  · rfl
  · cases taken <;> cases mispredicted <;> rfl

/-- An instruction of a SIMD class has one class and no second one (log entry 29). -/
theorem toNat_simdClass (c : Option SimdClass) : c.isSome.toNat =
    (c = some .packedSingle : Bool).toNat + (c = some .scalarSingle : Bool).toNat +
      (c = some .packedDouble : Bool).toNat + (c = some .scalarDouble : Bool).toNat +
      (c = some .vectorInteger : Bool).toNat := by
  obtain _ | c := c
  · rfl
  · cases c <;> rfl

/-- The rows of segment registers name all four of them (rule R37). -/
theorem toNat_segReg (r : SegReg) : 1 =
    (r = .es : Bool).toNat + (r = .ds : Bool).toNat + (r = .fs : Bool).toNat + (r = .gs : Bool).toNat := by
  cases r <;> rfl

/-! ## The sums of gains -/

/-- Rule R343. -/
theorem gain_uopsRetiredFused (s : State) : gain .uopsRetiredFused s =
    gain .uopsRetiredLdIndBr s + gain .uopsRetiredStdSta s + gain .uopsRetiredMacroFusion s := by
  obtain ⟨x, hg⟩ | hg := gain_eq_amount_or_zero s <;>
    rw [hg (i := .uopsRetiredFused) rfl, hg (i := .uopsRetiredLdIndBr) rfl, hg (i := .uopsRetiredStdSta) rfl,
      hg (i := .uopsRetiredMacroFusion) rfl]
  simp only [onUop_eq_uopWorth, ← uopWorth_add, toNat_fused]

/-- Rule R345. -/
theorem gain_uopsRetiredAny (s : State) :
    gain .uopsRetiredAny s = gain .uopsRetiredFused s + gain .uopsRetiredNonFused s := by
  obtain ⟨x, hg⟩ | hg := gain_eq_amount_or_zero s <;>
    rw [hg (i := .uopsRetiredAny) rfl, hg (i := .uopsRetiredFused) rfl, hg (i := .uopsRetiredNonFused) rfl]
  simp only [onUop_eq_uopWorth, ← uopWorth_add, ← toNat_fused_or_not]

/-- Rule R348. -/
theorem gain_brInstRetiredAny (s : State) : gain .brInstRetiredAny s =
    gain .brInstRetiredPredNotTaken s + gain .brInstRetiredMispredNotTaken s + gain .brInstRetiredPredTaken s +
      gain .brInstRetiredMispredTaken s := by
  obtain ⟨x, hg⟩ | hg := gain_eq_amount_or_zero s <;>
    rw [hg (i := .brInstRetiredAny) rfl, hg (i := .brInstRetiredPredNotTaken) rfl,
      hg (i := .brInstRetiredMispredNotTaken) rfl, hg (i := .brInstRetiredPredTaken) rfl,
      hg (i := .brInstRetiredMispredTaken) rfl]
  simp only [State.onRetiredBranch, onRetired_eq_uopWorth, ← uopWorth_add, ← List.sum_map_add, toNat_branch]

/-- Rule R353. -/
theorem gain_brInstRetiredTaken (s : State) :
    gain .brInstRetiredTaken s = gain .brInstRetiredPredTaken s + gain .brInstRetiredMispredTaken s := by
  obtain ⟨x, hg⟩ | hg := gain_eq_amount_or_zero s <;>
    rw [hg (i := .brInstRetiredTaken) rfl, hg (i := .brInstRetiredPredTaken) rfl,
      hg (i := .brInstRetiredMispredTaken) rfl]
  simp only [State.onRetiredBranch, onRetired_eq_uopWorth, ← uopWorth_add, ← List.sum_map_add, ← toNat_taken]

/-- Rule R354. -/
theorem gain_brInstRetiredMispred (s : State) :
    gain .brInstRetiredMispred s = gain .brInstRetiredMispredNotTaken s + gain .brInstRetiredMispredTaken s := by
  obtain ⟨x, hg⟩ | hg := gain_eq_amount_or_zero s <;>
    rw [hg (i := .brInstRetiredMispred) rfl, hg (i := .brInstRetiredMispredNotTaken) rfl,
      hg (i := .brInstRetiredMispredTaken) rfl]
  simp only [State.onRetiredBranch, onRetired_eq_uopWorth, ← uopWorth_add, ← List.sum_map_add, ← toNat_mispredicted]

/-- Rule R362. -/
theorem gain_simdInstRetiredAny (s : State) : gain .simdInstRetiredAny s =
    gain .simdInstRetiredPackedSingle s + gain .simdInstRetiredScalarSingle s + gain .simdInstRetiredPackedDouble s +
      gain .simdInstRetiredScalarDouble s + gain .simdInstRetiredVector s := by
  obtain ⟨x, hg⟩ | hg := gain_eq_amount_or_zero s <;>
    rw [hg (i := .simdInstRetiredAny) rfl, hg (i := .simdInstRetiredPackedSingle) rfl,
      hg (i := .simdInstRetiredScalarSingle) rfl, hg (i := .simdInstRetiredPackedDouble) rfl,
      hg (i := .simdInstRetiredScalarDouble) rfl, hg (i := .simdInstRetiredVector) rfl]
  simp only [onRetired_eq_uopWorth, ← uopWorth_add, ← List.sum_map_add, toNat_simdClass]

/-- Rule R388. -/
theorem gain_segRenameStallsAny (s : State) : gain .segRenameStallsAny s =
    gain .segRenameStallsEs s + gain .segRenameStallsDs s + gain .segRenameStallsFs s + gain .segRenameStallsGs s := by
  obtain ⟨x, hg⟩ | hg := gain_eq_amount_or_zero s <;>
    rw [hg (i := .segRenameStallsAny) rfl, hg (i := .segRenameStallsEs) rfl, hg (i := .segRenameStallsDs) rfl,
      hg (i := .segRenameStallsFs) rfl, hg (i := .segRenameStallsGs) rfl]
  simp only [← onFound_add]
  refine congrArg (s.onFound x) (funext fun f => ?_)
  cases f with
  | segmentStalled r => exact toNat_segReg r
  | _ => rfl

/-- Rule R393. -/
theorem gain_segRegRenamesAny (s : State) : gain .segRegRenamesAny s =
    gain .segRegRenamesEs s + gain .segRegRenamesDs s + gain .segRegRenamesFs s + gain .segRegRenamesGs s := by
  obtain ⟨x, hg⟩ | hg := gain_eq_amount_or_zero s <;>
    rw [hg (i := .segRegRenamesAny) rfl, hg (i := .segRegRenamesEs) rfl, hg (i := .segRegRenamesDs) rfl,
      hg (i := .segRegRenamesFs) rfl, hg (i := .segRegRenamesGs) rfl]
  simp only [← onFound_add]
  refine congrArg (s.onFound x) (funext fun f => ?_)
  cases f with
  | segmentRenamed r => exact toNat_segReg r
  | _ => rfl

/-- Settles O42: each sum from how one micro-op, instruction or segment register is divided among the rows added. -/
theorem retiredCountsAddUp : Obligations.RetiredCountsAddUp := fun s =>
  ⟨gain_uopsRetiredFused s, gain_uopsRetiredAny s, gain_brInstRetiredAny s, gain_brInstRetiredTaken s,
    gain_brInstRetiredMispred s, gain_simdInstRetiredAny s, gain_segRenameStallsAny s, gain_segRegRenamesAny s⟩

end Sys2Proof.Machine
end

section
/-! The branches retired (rules R348 to R354): those correctly predicted to be taken (O17). -/

namespace Sys2Proof.Machine

/-- A row that counts retired branch instructions by a condition on their outcome, whichever way it is written. -/
theorem countsRetired_of_onRetiredBranch {i : Instr} {c p : BranchOutcome → Bool}
    (he : ∀ s, exec i s = countGp s fun x => s.onRetiredBranch x c) (h : ∀ b, c b = p b) :
    CountsRetired i fun r => r.branch.any p := by
  obtain rfl : c = p := funext h
  exact countsRetired_of_onRetired he

/-- Settles O17: the row counts the retired branches that were taken and not mispredicted, and its pair decodes to
it. -/
theorem predictedTakenRule : Obligations.PredictedTakenRule :=
  ⟨rfl, decodeEncoding_encode .brInstRetiredPredTaken rfl, fun _ _ => activity_of_exec,
    countsRetired_of_onRetiredBranch (fun _ => rfl) fun _ => Bool.and_comm _ _⟩

end Sys2Proof.Machine
end

section
/-! What the machine refuses (O35). -/

namespace Sys2Proof.Machine

/-! ## The reasons for a refusal -/

/-- The refusal `r` of the input `i` has its reason: `i` is about a core that does not exist (D18), names a counter or
a register that does not exist (rules R21 and R84), writes a counter, or reads an event-select register (rule R27; log
entry 32). -/
inductive State.Refuses (s : State) : Input → Refusal → Prop where
  | core {i : Input} {x : CoreId} (hi : i.core? = some x) (hx : s.hasCore x = false) : s.Refuses i .noSuchCore
  | select {x : CoreId} {k : Nat} {e u : Byte} (hk : (s.core x).gp.length ≤ k) :
      s.Refuses (.select x k e u) .counterIndex
  | read {c : CounterId} (hc : s.hasCounter c = false) : s.Refuses (.read c) .counterIndex
  | readPmc {x : CoreId} {a k : Nat} (ha : registerAt s.params a = some (.pmc k)) (hk : (s.core x).gp.length ≤ k) :
      s.Refuses (.readMsr x a) .counterIndex
  | writeEvtsel {x : CoreId} {a w k : Nat} (ha : registerAt s.params a = some (.evtsel k))
      (hk : (s.core x).gp.length ≤ k) : s.Refuses (.writeMsr x a w) .counterIndex
  | writeFixed {x : CoreId} {a w : Nat} {f : FixedId} (ha : registerAt s.params a = some (.fixed f)) :
      s.Refuses (.writeMsr x a w) .counterWrite
  | writePmc {x : CoreId} {a w k : Nat} (ha : registerAt s.params a = some (.pmc k)) :
      s.Refuses (.writeMsr x a w) .counterWrite
  | readEvtsel {x : CoreId} {a k : Nat} (ha : registerAt s.params a = some (.evtsel k)) :
      s.Refuses (.readMsr x a) .evtselRead
  | readOutside {x : CoreId} {a : Nat} (ha : registerAt s.params a = none) : s.Refuses (.readMsr x a) .msrOutsideSpec
  | writeOutside {x : CoreId} {a w : Nat} (ha : registerAt s.params a = none) :
      s.Refuses (.writeMsr x a w) .msrOutsideSpec

/-! ## What each operation of software on counters refuses -/

theorem acceptSelect_refused {s : State} {x : CoreId} {k : Nat} {e u : Byte} {r : Refusal}
    (h : s.acceptSelect x k e u = .refused r) : r = .counterIndex ∧ (s.core x).gp.length ≤ k := by
  unfold State.acceptSelect at h
  split at h
  · cases h
  · next hk => exact ⟨(Host.Outcome.refused.inj h).symm, Nat.le_of_not_lt hk⟩

theorem acceptRead_refused {s : State} {c : CounterId} {r : Refusal} (h : s.acceptRead c = .refused r) :
    r = .counterIndex ∧ s.hasCounter c = false := by
  unfold State.acceptRead at h
  split at h
  · cases h
  · next hc => exact ⟨(Host.Outcome.refused.inj h).symm, Bool.eq_false_iff.mpr hc⟩

theorem acceptReadMsr_refused {s : State} {x : CoreId} {a : Nat} {r : Refusal} (hx : s.hasCore x = true)
    (h : s.acceptReadMsr x a = .refused r) : s.Refuses (.readMsr x a) r := by
  unfold State.acceptReadMsr at h
  split at h
  · cases h
  · next k ha =>
    obtain ⟨rfl, hc⟩ := acceptRead_refused h
    exact .readPmc ha (Nat.le_of_not_lt fun hk => by simp [(hasCounter_gp_iff hx k).mpr hk] at hc)
  · next k ha =>
    cases h
    exact .readEvtsel ha
  · next ha =>
    cases h
    exact .readOutside ha

theorem acceptWriteMsr_refused {s : State} {x : CoreId} {a w : Nat} {r : Refusal}
    (h : s.acceptWriteMsr x a w = .refused r) : s.Refuses (.writeMsr x a w) r := by
  unfold State.acceptWriteMsr at h
  split at h
  · next k ha =>
    obtain ⟨rfl, hk⟩ := acceptSelect_refused h
    exact .writeEvtsel ha hk
  · next reg hne ha =>
    cases h
    cases reg with
    | fixed f => exact .writeFixed ha
    | pmc k => exact .writePmc ha
    | evtsel k => exact absurd rfl (hne k)
  · next ha =>
    cases h
    exact .writeOutside ha

/-! ## What the machine refuses -/

/-- An input about a core that does not exist is refused (D18). -/
theorem accept_noSuchCore {s : State} {i : Input} {x : CoreId} (hi : i.core? = some x) (hx : s.hasCore x = false) :
    s.accept i = .refused .noSuchCore := if_neg (by simp [hi, hx])

/-- Whatever input is refused, the refusal has its reason. -/
theorem accept_refused {s : State} {i : Input} {r : Refusal} (h : s.accept i = .refused r) : s.Refuses i r := by
  unfold State.accept at h
  split at h
  · next hcore =>
    split at h
    · obtain ⟨rfl, hk⟩ := acceptSelect_refused h
      exact .select hk
    · obtain ⟨rfl, hc⟩ := acceptRead_refused h
      exact .read hc
    · exact acceptReadMsr_refused hcore h
    · exact acceptWriteMsr_refused h
    · cases h
  · next hcore =>
    cases h
    obtain ⟨x, hi, hx⟩ : ∃ x, i.core? = some x ∧ s.hasCore x = false := by simpa [Option.all_eq_true] using hcore
    exact .core hi hx

/-- What is refused, and why, does not depend on the history still to come. -/
theorem State.Refuses.of_setQueue {s : State} {l : List Input} {i : Input} {r : Refusal}
    (h : State.Refuses { s with queue := l } i r) : s.Refuses i r := by
  cases h with
  | core hi hx => exact .core hi hx
  | select hk => exact .select hk
  | read hc => exact .read hc
  | readPmc ha hk => exact .readPmc ha hk
  | writeEvtsel ha hk => exact .writeEvtsel ha hk
  | writeFixed ha => exact .writeFixed ha
  | writePmc ha => exact .writePmc ha
  | readEvtsel ha => exact .readEvtsel ha
  | readOutside ha => exact .readOutside ha
  | writeOutside ha => exact .writeOutside ha

/-- A step refuses nothing but the next input of the history, when every counter has been served. -/
theorem step_refused {s : State} {r : Refusal} (h : step s = .refused r) :
    s.turn = [] ∧ ∃ i rest, s.queue = i :: rest ∧ s.Refuses i r := by
  obtain ⟨_, _, -, -, e⟩ | ⟨_, _, _, -, -, -, e⟩ | ⟨_, _, _, _, -, -, -, e⟩ | ⟨-, -, e⟩ | ⟨i, rest, ht, hq, e⟩ :=
    step_cases s <;> rw [e] at h
  case inr.inr.inr.inr => exact ⟨ht, i, rest, hq, (accept_refused h).of_setQueue⟩
  all_goals cases h

/-- Settles O35: there is no fault to answer (rule R500), and each reason for a refusal is one of those named. -/
theorem stepRefusesOnlyUnknownNames : Obligations.StepRefusesOnlyUnknownNames := by
  refine ⟨fun s i x hi hx => accept_noSuchCore hi hx, fun s => ⟨nofun, fun r h => ?_⟩⟩
  obtain ⟨ht, i, rest, hq, hr⟩ := step_refused h
  refine ⟨ht, i, rest, hq, ?_⟩
  cases hr with
  | core hi hx => exact .inl ⟨rfl, _, hi, hx⟩
  | select hk => exact .inr (.inl ⟨rfl, .inl ⟨_, _, _, _, rfl, hk⟩⟩)
  | read hc => exact .inr (.inl ⟨rfl, .inr (.inl ⟨_, rfl, hc⟩)⟩)
  | readPmc ha hk => exact .inr (.inl ⟨rfl, .inr (.inr (.inl ⟨_, _, _, rfl, ha, hk⟩))⟩)
  | writeEvtsel ha hk => exact .inr (.inl ⟨rfl, .inr (.inr (.inr ⟨_, _, _, _, rfl, ha, hk⟩))⟩)
  | writeFixed ha => exact .inr (.inr (.inl ⟨rfl, _, _, _, rfl, .inl ⟨_, ha⟩⟩))
  | writePmc ha => exact .inr (.inr (.inl ⟨rfl, _, _, _, rfl, .inr ⟨_, ha⟩⟩))
  | readEvtsel ha => exact .inr (.inr (.inr (.inl ⟨rfl, _, _, _, rfl, ha⟩)))
  | readOutside ha => exact .inr (.inr (.inr (.inr ⟨rfl, _, _, ha, .inl rfl⟩)))
  | writeOutside ha => exact .inr (.inr (.inr (.inr ⟨rfl, _, _, ha, .inr ⟨_, rfl⟩⟩)))

end Sys2Proof.Machine
end

section
/-! Moments: to whom one is served, and that an input makes at most one (O39). -/

namespace Sys2Proof.Machine

/-! ## The counters that are counting, each once (rules R503 and R513) -/

/-- Which counters of a core are counting, in words (rules R21 and R43). -/
theorem Core.mem_listening {x : CoreId} {d : Core} {c : CounterId} : c ∈ d.listening x ↔
    (∃ k g, c = .gp x k ∧ d.gp[k]? = some g ∧ g.selected = true) ∨ (d.fixedStarted = true ∧ ∃ f, c = .fixed x f) := by
  have hgp : c ∈ ((List.range d.gp.length).filter fun k => (d.gp[k]?).any (·.selected)).map (CounterId.gp x ·) ↔
      ∃ k g, c = .gp x k ∧ d.gp[k]? = some g ∧ g.selected = true := by
    simp only [List.mem_map, List.mem_filter, List.mem_range, Option.any_eq_true]
    constructor
    · rintro ⟨k, ⟨-, g, hg, hs⟩, rfl⟩
      exact ⟨k, g, rfl, hg, hs⟩
    · rintro ⟨k, g, rfl, hg, hs⟩
      exact ⟨k, ⟨(List.getElem?_eq_some_iff.mp hg).1, g, hg, hs⟩, rfl⟩
  have hfixed : c ∈ (if d.fixedStarted then [.fixed x .ctr0, .fixed x .ctr1, .fixed x .ctr2] else []) ↔
      d.fixedStarted = true ∧ ∃ f, c = .fixed x f := by
    split
    · next hs =>
      simp only [hs, true_and, List.mem_cons, List.not_mem_nil, or_false]
      exact ⟨by rintro (h | h | h) <;> exact ⟨_, h⟩, by rintro ⟨f, rfl⟩; cases f <;> simp⟩
    · next hs => simp [hs]
  rw [Core.listening, List.mem_append, hgp, hfixed]

theorem Core.listening_nodup (x : CoreId) (d : Core) : (d.listening x).Nodup := by
  refine List.Nodup.append ?_ (by split <;> simp) fun c hgp hfixed => ?_
  · exact (List.nodup_range.filter _).map fun _ _ h => (CounterId.gp.inj h).2
  · obtain ⟨k, -, rfl⟩ := List.mem_map.mp hgp
    split at hfixed <;> simp at hfixed

theorem mem_cores {s : State} {x : CoreId} : x ∈ s.cores ↔ s.hasCore x = true := by simp [State.hasCore]

theorem cores_nodup (s : State) : s.cores.Nodup := by
  unfold State.cores
  split <;> decide

theorem mem_listening {s : State} {c : CounterId} : c ∈ s.listening ↔ s.isCounting c := by
  simp only [State.listening, List.mem_flatMap, mem_cores, Core.mem_listening]
  constructor
  · rintro ⟨x, hx, ⟨k, g, rfl, hg, hs⟩ | ⟨hs, f, rfl⟩⟩
    · exact ⟨by simpa [State.hasCounter, hx] using (List.getElem?_eq_some_iff.mp hg).1, g, hg, hs⟩
    · exact ⟨hx, hs⟩
  · cases c with
    | gp x k =>
      rintro ⟨hc, g, hg, hs⟩
      exact ⟨x, (Bool.and_eq_true_iff.mp hc).1, .inl ⟨k, g, rfl, hg, hs⟩⟩
    | fixed x f => exact fun ⟨hx, hs⟩ => ⟨x, hx, .inr ⟨hs, f, rfl⟩⟩

theorem listening_nodup (s : State) : s.listening.Nodup := by
  refine List.nodup_flatMap.mpr ⟨fun x _ => Core.listening_nodup x _, (cores_nodup s).imp fun {x y} hxy c hx hy => ?_⟩
  obtain ⟨k, g, rfl, -⟩ | ⟨-, f, rfl⟩ := Core.mem_listening.mp hx
  · obtain ⟨_, _, h, -⟩ | ⟨-, _, h⟩ := Core.mem_listening.mp hy <;> cases h
    exact hxy rfl
  · obtain ⟨_, _, h, -⟩ | ⟨-, _, h⟩ := Core.mem_listening.mp hy <;> cases h
    exact hxy rfl

/-! ## What makes no moment, and what makes one -/

/-- The moment that is being served, the counters it has still to be served to, and how many moments there have been. -/
def State.serving (s : State) : Moment × List CounterId × Nat := (s.now, s.turn, s.moments)

@[simp] theorem serving_setCore (s : State) (x : CoreId) (c : Core) : (s.setCore x c).serving = s.serving := by
  cases x <;> rfl

@[simp] theorem serving_modCore (s : State) (x : CoreId) (f : Core → Core) : (s.modCore x f).serving = s.serving :=
  serving_setCore ..

@[simp] theorem serving_followedBy (s : State) (l : List Input) : (s.followedBy l).serving = s.serving := rfl

@[simp] theorem serving_startLocks (s : State) (x : CoreId) (l : List DataRef) :
    (s.startLocks x l).serving = s.serving := by cases x <;> rfl

/-- From `s` to `t` there is no moment, or there is one, which is served to every counter that is then counting. -/
def State.AtMostOneMoment (s t : State) : Prop :=
  t.serving = s.serving ∨ (t.turn = t.listening ∧ t.moments = s.moments + 1)

theorem State.AtMostOneMoment.refl (s : State) : s.AtMostOneMoment s := .inl rfl

/-- A moment that begins after changes that make none. -/
theorem State.AtMostOneMoment.begin {s t : State} (h : t.serving = s.serving) (m : Moment) :
    s.AtMostOneMoment (t.begin m) := by
  have hm : t.moments = s.moments := congrArg (·.2.2) h
  exact .inr ⟨begin_serves t m, by rw [begin_moments, hm]⟩

/-- A cycle of the reference clock that has not been earned is no moment (rule R564), any other cycle is one. -/
theorem atMostOneMoment_tickClock (s : State) (k : Tick) : s.AtMostOneMoment (s.tickClock k) := by
  cases k with
  | core x => exact .begin rfl _
  | bus => exact .begin rfl _
  | ref =>
    obtain h | h := Nat.lt_or_ge s.refCredit s.params.busCycles
    · rw [tickClock_ref_unearned h]
      exact .refl s
    · rw [tickClock_ref_earned h]
      exact .begin rfl _

theorem atMostOneMoment_setTemperature (s : State) (n : Nat) : s.AtMostOneMoment (s.setTemperature n) := by
  unfold State.setTemperature
  split
  exacts [.begin rfl _, .inl rfl]

@[simp] theorem serving_thermalCheck (s : State) : s.thermalCheck.serving = s.serving := by
  unfold State.thermalCheck
  split <;> rfl

theorem occur_eq_begin (s : State) (x : CoreId) {o : Occ} (h : ∀ b, o ≠ .loadBlocked b) :
    s.occur x o = s.begin (.occ x o) := by
  cases o
  case loadBlocked b => exact absurd rfl (h b)
  all_goals rfl

theorem atMostOneMoment_blockLoad (s : State) (x : CoreId) (b : LoadBlock) : s.AtMostOneMoment (s.blockLoad x b) :=
  .begin (serving_modCore ..) _

theorem atMostOneMoment_occur (s : State) (x : CoreId) (o : Occ) : s.AtMostOneMoment (s.occur x o) := by
  by_cases h : ∃ b, o = .loadBlocked b
  · obtain ⟨b, rfl⟩ := h
    exact atMostOneMoment_blockLoad s x b
  · rw [occur_eq_begin s x fun b hb => h ⟨b, hb⟩]
    exact .begin rfl _

theorem atMostOneMoment_makeRef (s : State) (x : CoreId) (a : DataRef) : s.AtMostOneMoment (s.makeRef x a) := by
  obtain ⟨-, e⟩ | ⟨-, -, e⟩ | ⟨-, -, e⟩ := makeRef_cases s x a <;> rw [e]
  exacts [.refl s, atMostOneMoment_blockLoad s x _, .begin rfl _]

theorem atMostOneMoment_retire (s : State) (x : CoreId) (u : RetiredUop) : s.AtMostOneMoment (s.retire x u) := by
  unfold State.retire
  split
  exacts [.refl s, .begin (by simp) _]

@[simp] theorem serving_endLock (s : State) (x : CoreId) (a : DataRef) : (s.endLock x a).serving = s.serving := by
  unfold State.endLock
  split
  exacts [rfl, serving_modCore ..]

theorem atMostOneMoment_evictL1d (s : State) (x : CoreId) (n : Nat) : s.AtMostOneMoment (s.evictL1d x n) :=
  .begin (serving_modCore ..) _

/-- A write of CR0 or CR3 makes a moment where it flushes the ITLB (rule R78). -/
theorem atMostOneMoment_writeControl (s : State) (x : CoreId) (b : Bool) (v : Nat) (f : Bool) :
    s.AtMostOneMoment (s.writeControl x b v f) := by
  cases f
  exacts [.inl (by simp [State.writeControl]), .begin (by simp) _]

/-- Every input other than an operation of software on counters makes at most one moment. -/
theorem advance_atMostOneMoment (s : State) (i : Input) : s.AtMostOneMoment (s.advance i) := by
  cases i <;> dsimp only [State.advance]
  case select | read | readMsr | writeMsr => exact .refl s
  case startFixed => exact .inl (serving_setCore ..)
  case tick k => exact atMostOneMoment_tickClock s k
  case setPipe | setPredictors | enterPipe | execute | abandon | storeWait | storeCommit | drain | fence | ioRequest |
      dequeue | setRegs | halt | wake | disableInterrupts | segmentRetire | setTlb | l1iLineState | prefetchStart |
      fpcwWrite => exact .inl (serving_modCore ..)
  case setBus | l2LineState => exact .inl rfl
  case nuke | transition | interrupt | segmentLoad | l1dLineIn | coreSnoop | itlbFlush | espImplicit | fpInst |
      mmxInst | emms | fpswWrite => exact .begin (serving_modCore ..) _
  case dataAccess | fpOp | l2LineIn | l2LineOut | l2Request | l2Reject | writeBackToL2 | dplPrefetch | bnr |
      snoopStall | snoopResponse => exact .begin rfl _
  case temperature n => exact atMostOneMoment_setTemperature s n
  case millisecond => exact .inl (serving_thermalCheck s)
  case busRequest x r n =>
    unfold State.requestBus
    split
    exacts [.inl (serving_modCore ..), .begin rfl _]
  case takeInterrupt =>
    split
    exacts [.inl (serving_modCore ..), .refl s]
  case occ x o => exact atMostOneMoment_occur s x o
  case segmentUpdate =>
    unfold State.updateSegment
    split
    exacts [.begin rfl _, .begin (serving_modCore ..) _]
  case pageWalkStart => exact .begin (serving_modCore ..) _
  case pageWalkEnd => exact .inl (serving_modCore ..)
  case dataRef x a => exact atMostOneMoment_makeRef s x a
  case retiredRef x a =>
    obtain ⟨-, e⟩ | ⟨-, e⟩ := makeRetiredRef_cases s x a <;> rw [e]
    exacts [.refl s, .begin rfl _]
  case l1dLineOut x n => exact atMostOneMoment_evictL1d s x n
  case l1dLineState x n st =>
    obtain ⟨-, -, e⟩ | ⟨-, e⟩ := setL1dState_cases s x n st <;> rw [e]
    exacts [atMostOneMoment_evictL1d s x n, .inl (serving_modCore ..)]
  case loadSent x b =>
    obtain ⟨-, e⟩ | ⟨-, e⟩ := sendLoad_cases s x b <;> rw [e]
    exacts [.refl s, .begin rfl _]
  case prefetchEnd =>
    unfold State.endPrefetch
    dsimp only
    split
    exacts [.inl (serving_modCore ..), .refl s]
  case lockEnd x a => exact .inl (serving_endLock s x a)
  case fetch x f =>
    obtain ⟨-, e⟩ | ⟨-, e⟩ := fetchInst_cases s x f <;> rw [e]
    exacts [.refl s, .begin rfl _]
  case controlWrite x b v f => exact atMostOneMoment_writeControl s x b v f
  case lengthDecode =>
    unfold State.decodeLength
    split
    exacts [.inl (serving_modCore ..), .refl s]
  case espExplicit =>
    unfold State.useEsp
    split
    exacts [.begin (serving_modCore ..) _, .refl s]
  case retire x u => exact atMostOneMoment_retire s x u
  case busTrans =>
    unfold State.submit
    split
    exacts [.begin rfl _, .inl rfl]

@[simp] theorem serving_readCounter (s : State) (c : CounterId) : (s.readCounter c).serving = s.serving := by
  unfold State.readCounter
  split
  · split
    · rfl
    · split <;> rfl
  · split <;> rfl

/-- Whatever input the machine accepts, it makes at most one moment: an operation of software on counters none. -/
theorem accept_atMostOneMoment {s t : State} {i : Input} (h : s.accept i = .next t) : s.AtMostOneMoment t := by
  obtain rfl | ⟨_, _, _, _, -, -, rfl⟩ | ⟨c, -, -, rfl⟩ := accept_next h
  exacts [advance_atMostOneMoment s i, .inl (serving_setCore ..), .inl (serving_readCounter s c)]

/-- Settles O39: the counters a moment is served to are those listed as counting, and no input makes two moments. -/
theorem momentServesEveryCountingCounter : Obligations.MomentServesEveryCountingCounter := by
  refine ⟨fun s m => ⟨rfl, listening_nodup s, fun c => mem_listening⟩, fun s x o hx ho => ?_,
    fun s r giver requester => accept_package rfl rfl, fun s t i h => ?_⟩
  · rw [accept_about hx rfl rfl, State.advance, occur_eq_begin s x ho]
  · refine (accept_atMostOneMoment h).imp_left fun hs => ?_
    obtain ⟨hnow, hrest⟩ := Prod.mk.inj hs
    obtain ⟨hturn, hmoments⟩ := Prod.mk.inj hrest
    exact ⟨hnow, hturn, hmoments⟩

end Sys2Proof.Machine
end

section
/-! Rows that add an amount and rows that count one of several occurrences of a kind; with them, the events of the L1 data
cache (O5) and of the bus signals (O6). -/

namespace Sys2Proof.Machine

/-! ## Rows that add an amount (rules R12 and R105) -/

/-- A row without qualifiers counts what its amount is worth. -/
theorem countsNumber_of_amount {i : Instr} {n : State → CoreId → Moment → Nat} {w : State → CoreId → Nat}
    (he : ∀ s, exec i s = countGp s (w s)) (h : ∀ s x, w s x = n s x s.now) : CountsNumber i n := by
  intro s x k rest ht
  rw [he, countGp_served s _ ht, h]

/-- A composed row counts what its amount is worth under a unit mask that its tables accept. -/
theorem countsNumberQualified_of_amount {i : Byte → Instr} {n : State → Settings → CoreId → Moment → Nat}
    {w : State → Settings → CoreId → Nat} (he : ∀ u s, exec (i u) s = countQualified s (i u).qualifiers u (w s))
    (h : ∀ s q x, w s q x = n s q x s.now) : CountsNumberQualified i n := by
  intro s x k rest u ht
  refine ⟨fun q hq => ?_, fun hq => ?_⟩
  · rw [he, countQualified_served s _ u _ ht hq, h]
  · rw [he, countQualified_unlisted s _ u _ hq]

/-! ## Rows that count some occurrences of a kind (rule R12) -/

/-- A row that counts the occurrences of one kind of which a condition holds. -/
theorem countsEach_of_occ_where {α : Type} {i : Instr} {kind : α → Occ} {w : State → Occ → Nat} {c : State → α → Bool}
    {p : State → α → Prop} (he : ∀ s, exec i s = countGp s fun x => s.onOcc x (w s))
    (hit : ∀ s a, w s (kind a) = (c s a).toNat) (miss : ∀ s o, (∀ a, o ≠ kind a) → w s o = 0)
    (h : ∀ s a, c s a = true ↔ p s a) : CountsEach i fun s x m => ∃ a, m = .occ x (kind a) ∧ p s a := by
  refine countsEach_of_occ he (fun _ _ _ ⟨_, e, _⟩ => ⟨_, e⟩) fun s x o => ⟨fun ⟨a, e, hp⟩ => ?_, fun hn => ?_⟩
  · rw [(Moment.occ.inj e).2, hit, (h s a).2 hp, Bool.toNat_true]
  · by_cases hk : ∃ a, o = kind a
    · obtain ⟨a, rfl⟩ := hk
      rw [hit, Bool.eq_false_iff.mpr fun hc => hn ⟨a, rfl, (h s a).1 hc⟩, Bool.toNat_false]
    · exact miss s o fun a e => hk ⟨a, e⟩

/-- A row that counts the occurrences of one kind of which what is known is one value. -/
theorem countsEach_of_occ_value {α : Type} {i : Instr} {kind : α → Occ} {v : α} {w : Occ → Nat} {c : α → Bool}
    (he : ∀ s, exec i s = countGp s fun x => s.onOcc x w) (hit : ∀ a, w (kind a) = (c a).toNat)
    (miss : ∀ o, (∀ a, o ≠ kind a) → w o = 0) (h : ∀ a, c a = true ↔ a = v) :
    CountsEach i fun _ x m => m = .occ x (kind v) := by
  simpa only [exists_eq_right] using countsEach_of_occ_where (p := fun _ a => a = v) he (fun _ => hit) (fun _ => miss)
    fun _ => h

/-- A row that counts one kind of thing that the state makes of an input, whatever else is known of it. -/
theorem countsEach_of_found_kind {α : Type} {i : Instr} {kind : α → Found} {w : Found → Nat}
    (he : ∀ s, exec i s = countGp s fun x => s.onFound x w) (hit : ∀ a, w (kind a) = 1)
    (miss : ∀ f, (∀ a, f ≠ kind a) → w f = 0) : CountsEach i fun _ x m => ∃ a, m = .found x (kind a) := by
  refine countsEach_of_found he (fun _ _ _ ⟨_, e⟩ => ⟨_, e⟩) fun s x f => ⟨fun ⟨a, e⟩ => ?_, fun hn => ?_⟩
  · rw [(Moment.found.inj e).2, hit]
  · exact miss f fun a e => hn ⟨a, e ▸ rfl⟩

/-- A row that counts one kind of thing that the state makes of an input, where what is known of it is one value. -/
theorem countsEach_of_found_value {α : Type} {i : Instr} {kind : α → Found} {v : α} {w : Found → Nat} {c : α → Bool}
    (he : ∀ s, exec i s = countGp s fun x => s.onFound x w) (hit : ∀ a, w (kind a) = (c a).toNat)
    (miss : ∀ f, (∀ a, f ≠ kind a) → w f = 0) (h : ∀ a, c a = true ↔ a = v) :
    CountsEach i fun _ x m => m = .found x (kind v) := by
  refine countsEach_of_found_eq he (by rw [hit, (h v).2 rfl, Bool.toNat_true]) fun f hf => ?_
  by_cases hk : ∃ a, f = kind a
  · obtain ⟨a, rfl⟩ := hk
    rw [hit, Bool.eq_false_iff.mpr fun hc => hf (congrArg kind ((h a).1 hc)), Bool.toNat_false]
  · exact miss f fun a e => hk ⟨a, e⟩

/-! ## References to the L1 data cache (rules R250 to R252, R254, R255, R260 and R261) -/

theorem indicates_onDataRef {s : State} {x : CoreId} {c : DataRef → LineState → LineState → Bool}
    {p : DataRef → LineState → LineState → Prop} (h : ∀ a first last, c a first last = true ↔ p a first last) :
    Indicates (s.onDataRef x c) (∃ a first last, s.now = .found x (.dataRef a first last) ∧ p a first last) := by
  refine indicates_onFound (fun f hm => ?_) fun ⟨_, _, _, hm, _⟩ => ⟨_, hm⟩
  rw [hm]
  split
  · exact indicates_toNat (by simp [h])
  · next hn => exact indicates_zero fun ⟨_, _, _, e, _⟩ => hn _ _ _ (Moment.found.inj e).2

/-- A row that counts references by a condition on them. -/
theorem countsDataRefs {i : Instr} {c : State → DataRef → LineState → LineState → Bool}
    {p : State → DataRef → LineState → LineState → Prop}
    (he : ∀ s, exec i s = countGp s fun x => s.onDataRef x (c s))
    (h : ∀ s a first last, c s a first last = true ↔ p s a first last) :
    CountsEach i fun s x m => ∃ a first last, m = .found x (.dataRef a first last) ∧ p s a first last :=
  countsEach_of_indicates he fun s _ => indicates_onDataRef (h s)

/-- A composed row that counts references by a condition on them and on the state of their line. -/
theorem countsDataRefsQualified {i : Byte → Instr} {c : State → Settings → DataRef → LineState → LineState → Bool}
    {p : State → Settings → DataRef → LineState → LineState → Prop}
    (he : ∀ u s, exec (i u) s = countQualified s (i u).qualifiers u fun q x => s.onDataRef x (c s q))
    (h : ∀ s q a first last, c s q a first last = true ↔ p s q a first last) : CountsEachQualified i fun s q x m =>
      ∃ a first last, m = .found x (.dataRef a first last) ∧ p s q a first last :=
  countsEachQualified_of_indicates he fun s q _ => indicates_onDataRef (h s q)

/-! ## Software prefetches and prefetch requests (rules R264 and R266) -/

theorem ssePreMissL2_counts : CountsEach .ssePreMissL2 fun _ x m =>
    m = .occ x (.ssePrefetch .t1 true) ∨ m = .occ x (.ssePrefetch .t2 true) := by
  refine countsEach_of_occ (fun _ => rfl) (fun _ _ _ h => h.elim (fun e => ⟨_, e⟩) fun e => ⟨_, e⟩) fun s x o => ?_
  split
  · exact indicates_toNat (by simp)
  · exact indicates_toNat (by simp)
  · next ht1 ht2 =>
    exact indicates_zero fun h => h.elim (fun e => ht1 _ (Moment.occ.inj e).2) fun e => ht2 _ (Moment.occ.inj e).2

theorem l1dPrefetchRequests_counts : CountsEach .l1dPrefetchRequests fun s x m =>
    ∃ rejected again, m = .occ x (.l1dPrefetch rejected again) ∧
      (again = true → s.unstated .resubmittedPrefetch = true) := by
  refine countsEach_of_occ (fun _ => rfl) (fun _ _ _ ⟨_, _, e, _⟩ => ⟨_, e⟩) fun s x o => ?_
  split
  · exact indicates_toNat (by simp [-Bool.exists_bool, State.countsL1dPrefetch, imp_iff_not_or])
  · next hn => exact indicates_zero fun ⟨_, _, e, _⟩ => hn _ _ (Moment.occ.inj e).2

/-- Settles O5: references by what they are, lines and prefetches by their kind, cycles by what they sample. -/
theorem l1DataEventsCount : Obligations.L1DataEventsCount := by
  refine ⟨?_, ?_, ?_, ?_, ?_, ?_, ?_, ?_, ?_, ?_, ?_, ?_, ?_, ?_, ssePreMissL2_counts, ?_, l1dPrefetchRequests_counts⟩
  -- reads, writes and locked reads that find their line in a selected state
  · exact countsDataRefsQualified (fun _ _ => rfl) fun s q a first last => by simp [and_assoc]
  · exact countsDataRefsQualified (fun _ _ => rfl) fun s q a first last => by simp [and_assoc]
  · exact countsDataRefsQualified (fun _ _ => rfl) fun s q a first last => by simp [and_assoc]
  -- cycles with a locked line; all references, and those of the three rows above
  · exact countsEach_of_cycle (fun _ => rfl) fun s x => by simp
  · simpa using countsDataRefs (i := .l1dAllRef) (p := fun _ _ _ _ => True) (fun _ => rfl) fun _ _ _ _ => by simp
  · exact countsDataRefs (fun _ => rfl) fun s a first last => by
      rw [Bool.and_eq_true, decide_eq_true_iff, Bool.not_eq_true', ← Bool.not_eq_true, Bool.and_eq_true]
  -- lines brought in and evicted
  · exact countsEach_of_found_kind (fun _ => rfl) (fun _ => rfl) fun f h => by split; exacts [absurd rfl (h _), rfl]
  · exact countsEach_of_found_value (fun _ => rfl) (fun _ => rfl) (fun f h => by split; exacts [absurd rfl (h _), rfl])
      fun _ => Iff.rfl
  · exact countsEach_of_found_value (fun _ => rfl) (fun _ => rfl) (fun f h => by split; exacts [absurd rfl (h _), rfl])
      fun _ => Iff.rfl
  -- misses that are outstanding
  · exact countsNumber_of_amount (fun _ => rfl) fun s x => by
      rw [← List.countP_eq_length_filter]; rfl
  -- references that span two lines
  · exact countsDataRefs (fun _ => rfl) fun s a first last => by
      rw [Bool.and_eq_true, Bool.not_eq_true', split_iff]
  · exact countsDataRefs (fun _ => rfl) fun s a first last => by rw [Bool.and_eq_true, split_iff]
  -- software prefetches of one kind that miss all cache levels, and loads that hit one in flight
  · exact countsEach_of_occ_value (kind := .ssePrefetch .nta) (fun _ => rfl) (fun _ => rfl)
      (fun o h => by split; exacts [absurd rfl (h _), rfl]) fun _ => Iff.rfl
  · exact countsEach_of_occ_value (kind := .ssePrefetch .t0) (fun _ => rfl) (fun _ => rfl)
      (fun o h => by split; exacts [absurd rfl (h _), rfl]) fun _ => Iff.rfl
  · exact countsEach_of_found_value (fun _ => rfl) (fun _ => rfl) (fun f h => by split; exacts [absurd rfl (h _), rfl])
      fun _ => Iff.rfl

/-! ## The bus and snoops (rules R267 to R271 and R284 to R290) -/

/-- A composed row that counts occurrences of the package or the bus which are what they are whatever the state says. -/
theorem countsEachQualified_of_sys {i : Byte → Instr} {p : State → Settings → CoreId → Moment → Prop}
    {w : State → Settings → CoreId → SysOcc → Nat}
    (he : ∀ u s, exec (i u) s = countQualified s (i u).qualifiers u fun q x => s.onSys (w s q x))
    (hp : ∀ s q x m, p s q x m → ∃ o, m = .sys o) (h : ∀ s q x o, Indicates (w s q x o) (p s q x (.sys o))) :
    CountsEachQualified i p :=
  countsEachQualified_of_indicates he fun s q x => indicates_onSys (fun o hm => hm ▸ h s q x o) (hp s q x s.now)

theorem busBnrDrv_counts : CountsEachQualified .busBnrDrv fun _ q _ m =>
    ∃ a, m = .sys (.bnr a) ∧ q.agentSel a = true := by
  refine countsEachQualified_of_sys (fun _ _ => rfl) (fun _ _ _ _ ⟨_, e, _⟩ => ⟨_, e⟩) fun s q x o => ?_
  split
  · exact indicates_toNat (by simp)
  · next hn => exact indicates_zero fun ⟨_, e, _⟩ => hn _ (Moment.sys.inj e)

theorem snoopStallDrv_counts : CountsEachQualified .snoopStallDrv fun s q x m =>
    ∃ a c, m = .sys (.snoopStall a c) ∧ s.busSel q x a c = true := by
  refine countsEachQualified_of_sys (fun _ _ => rfl) (fun _ _ _ _ ⟨_, _, e, _⟩ => ⟨_, e⟩) fun s q x o => ?_
  split
  · exact indicates_toNat (by simp)
  · next hn => exact indicates_zero fun ⟨_, _, e, _⟩ => hn _ _ (Moment.sys.inj e)

/-- Under THIS_AGENT only this processor's responses to its own transactions are seen (log entry 39). -/
theorem snoopSeen_iff {q : Settings} {giver requester : Agent} : snoopSeen q giver requester = true ↔
    q.agent = .allAgents ∨ giver = .thisProcessor ∧ requester = .thisProcessor := by
  rw [snoopSeen, Bool.or_eq_true, Bool.and_eq_true, decide_eq_true_iff, decide_eq_true_iff, decide_eq_true_iff]

theorem extSnoop_counts : CountsEachQualified .extSnoop fun _ q _ m =>
    ∃ r giver requester, m = .sys (.snoopResponse r giver requester) ∧ q.snoopRespSel r = true ∧
      (q.agent = .allAgents ∨ giver = .thisProcessor ∧ requester = .thisProcessor) := by
  refine countsEachQualified_of_sys (fun _ _ => rfl) (fun _ _ _ _ ⟨_, _, _, e, _⟩ => ⟨_, e⟩) fun s q x o => ?_
  split
  · exact indicates_toNat (by simp [snoopSeen_iff])
  · next hn => exact indicates_zero fun ⟨_, _, _, e, _⟩ => hn _ _ _ (Moment.sys.inj e)

theorem cmpSnoop_counts : CountsEachQualified .cmpSnoop fun _ q x m =>
    ∃ y k, m = .found y (.coreSnoop k) ∧ q.coreSel x y = true ∧ q.snoopTypeSel k = true := by
  refine countsEachQualified_of_indicates (fun _ _ => rfl) fun s q x =>
    indicates_onFoundIn (fun y f hm => ?_) fun ⟨y, k, hm, _⟩ => ⟨y, _, hm⟩
  rw [hm]
  split
  · exact indicates_toNat (by simp)
  · next hn => exact indicates_zero fun ⟨_, _, e, _⟩ => hn _ (Moment.found.inj e).2

/-- A composed row that counts the bus cycles in which one of several holds a condition. -/
theorem countsBusCycles {α : Type} {i : Byte → Instr} {l : State → List α} {c : State → Settings → CoreId → α → Bool}
    (he : ∀ u s, exec (i u) s = countQualified s (i u).qualifiers u fun q x =>
      s.onBusCycle ((l s).any (c s q x)).toNat) :
    CountsEachQualified i fun s q x m => m = .tick .bus ∧ ∃ a ∈ l s, c s q x a = true :=
  countsEachQualified_of_indicates he fun _ _ _ => indicates_onBusCycle (indicates_toNat List.any_eq_true)

/-- Settles O6: the signals and snoops, the bus cycles by what is seen on the bus, and the queues. -/
theorem busSignalEventsCount : Obligations.BusSignalEventsCount := by
  refine ⟨?_, busBnrDrv_counts, ?_, ?_, ?_, extSnoop_counts, cmpSnoop_counts, ?_, ?_, ?_, snoopStallDrv_counts, ?_⟩
  -- the reads that are pending
  · exact countsNumberQualified_of_amount (fun _ _ => rfl) fun s q x => by
      rw [onCycle_eq_ite, List.countP_eq_length_filter]
  -- data sent, LOCK asserted, data received
  · exact countsBusCycles fun _ _ => rfl
  · simpa only [Prod.exists] using countsBusCycles (i := .busLockClocks) fun _ _ => rfl
  · exact countsBusCycles fun _ _ => rfl
  -- HIT# and HITM# driven
  · exact countsBusCycles fun _ _ => rfl
  · exact countsBusCycles fun _ _ => rfl
  -- an empty bus queue, and an I/O request that waits in it
  · exact countsEachQualified_of_indicates (fun _ _ => rfl) fun s q x => indicates_onCycle (indicates_toNat Iff.rfl)
  · exact countsEachQualified_of_indicates (fun _ _ => rfl) fun s q x =>
      indicates_onCoreCycle (indicates_toNat (by simp only [List.any_eq_true, List.contains_iff_mem]))

end Sys2Proof.Machine
end

section
/-! The front end (O8) and the branches executed (O9). -/

namespace Sys2Proof.Machine

/-! ## Instruction fetches (rules R291 to R294 and R296) -/

/-- A row that counts fetches by a condition on them and on whether they missed the ITLB. -/
theorem countsFetches {i : Instr} {c : State → Fetch → Bool → Bool} {p : State → Fetch → Bool → Prop}
    {w : State → Found → Nat} (he : ∀ s, exec i s = countGp s fun x => s.onFound x (w s))
    (hit : ∀ s f missed, w s (.fetch f missed) = (c s f missed).toNat)
    (miss : ∀ s g, (∀ f missed, g ≠ .fetch f missed) → w s g = 0)
    (h : ∀ s f missed, c s f missed = true ↔ p s f missed) :
    CountsEach i fun s x m => ∃ f missed, m = .found x (.fetch f missed) ∧ p s f missed := by
  refine countsEach_of_found he (fun _ _ _ ⟨_, _, e, _⟩ => ⟨_, e⟩) fun s x g => ?_
  by_cases hg : ∃ f missed, g = .fetch f missed
  · obtain ⟨f, missed, rfl⟩ := hg
    rw [hit]
    exact indicates_toNat (by simp [-Bool.exists_bool, h])
  · rw [miss s g fun f missed e => hg ⟨f, missed, e⟩]
    exact indicates_zero fun ⟨f, missed, e, _⟩ => hg ⟨f, missed, (Moment.found.inj e).2⟩

/-- A row that counts the fetches that miss the ITLB, by the size of their page. -/
theorem countsItlbMisses {i : Instr} {c : State → Fetch → Bool} {p : State → Fetch → Prop}
    {w : State → Found → Nat} (he : ∀ s, exec i s = countGp s fun x => s.onFound x (w s))
    (hit : ∀ s f missed, w s (.fetch f missed) = (missed && c s f).toNat)
    (miss : ∀ s g, (∀ f missed, g ≠ .fetch f missed) → w s g = 0) (h : ∀ s f, c s f = true ↔ p s f) :
    CountsEach i fun s x m => ∃ f, m = .found x (.fetch f true) ∧ p s f := by
  simpa [h] using countsFetches he hit miss fun _ _ _ => Iff.rfl

/-! ## Decoded instructions (rules R322 and R323) -/

theorem macroInstsDecoded_counts : CountsEach .macroInstsDecoded fun _ x m =>
    ∃ complex branch, m = .occ x (.decoded complex branch) := by
  refine countsEach_of_occ (fun _ => rfl) (fun _ _ _ ⟨_, _, e⟩ => ⟨_, e⟩) fun s x o => ?_
  split
  · exact indicates_one ⟨_, _, rfl⟩
  · next hn => exact indicates_zero fun ⟨_, _, e⟩ => hn _ _ (Moment.occ.inj e).2

theorem macroInstsCiscDecoded_counts : CountsEach .macroInstsCiscDecoded fun _ x m =>
    ∃ branch, m = .occ x (.decoded true branch) := by
  refine countsEach_of_occ (fun _ => rfl) (fun _ _ _ ⟨_, e⟩ => ⟨_, e⟩) fun s x o => ?_
  split
  · exact indicates_toNat (by simp [-Bool.exists_bool])
  · next hn => exact indicates_zero fun ⟨_, e⟩ => hn _ _ (Moment.occ.inj e).2

/-- Settles O8: fetches by what they miss, cycles by what they sample, instructions decoded and uses of ESP. -/
theorem frontEndEventsCount : Obligations.FrontEndEventsCount := by
  refine ⟨?_, ?_, ?_, ?_, ?_, ?_, ?_, ?_, ?_, ?_, ?_, ?_, ?_, ?_, ?_, ?_, macroInstsDecoded_counts,
    macroInstsCiscDecoded_counts, ?_, ?_⟩
  -- all fetches, and those that miss the IFU or produce a memory request
  · simpa using countsFetches (i := .l1lReads) (c := fun _ _ _ => true) (fun _ => rfl) (fun _ _ _ => rfl)
      (fun _ _ h => by split; exacts [absurd rfl (h _ _), rfl]) fun _ _ _ => iff_true_intro rfl
  · exact countsFetches (fun _ => rfl) (fun _ _ _ => rfl)
      (fun _ _ h => by split; exacts [absurd rfl (h _ _), rfl]) fun s f missed => by
        rw [Bool.or_eq_true, Bool.or_eq_true, or_assoc]
  -- misses of the ITLB by the size of the page, and flushes
  · exact countsItlbMisses (fun _ => rfl) (fun _ _ _ => rfl)
      (fun _ _ h => by split; exacts [absurd rfl (h _ _), rfl]) fun _ _ => decide_eq_true_iff
  · exact countsItlbMisses (fun _ => rfl) (fun _ _ _ => rfl)
      (fun _ _ h => by split; exacts [absurd rfl (h _ _), rfl]) fun _ _ => decide_eq_true_iff
  · exact countsEach_of_found_eq (fun _ => rfl) rfl fun f h => by split; exacts [absurd rfl h, rfl]
  · exact countsItlbMisses (fun _ => rfl) (fun _ _ _ => rfl)
      (fun _ _ h => by split; exacts [absurd rfl (h _ _), rfl]) fun _ _ => by
        rw [Bool.or_eq_true, CodePage.small, CodePage.large, decide_eq_true_iff, decide_eq_true_iff]
  -- cycles of the queue, of fetches that stall, and of the slow length decoder
  · exact countsEach_of_cycle (fun _ => rfl) fun _ _ => Iff.rfl
  · exact countsEach_of_cycle (fun _ => rfl) fun _ _ => Iff.rfl
  · exact countsEach_of_cycle (fun _ => rfl) fun _ _ => Iff.rfl
  -- micro-ops dispatched, and the cycles of each port
  · exact countsNumber_of_amount (fun _ => rfl) fun s x => onCycle_eq_ite s x _
  · exact countsEach_of_cycle (fun _ => rfl) fun _ _ => Iff.rfl
  · exact countsEach_of_cycle (fun _ => rfl) fun _ _ => Iff.rfl
  · exact countsEach_of_cycle (fun _ => rfl) fun _ _ => Iff.rfl
  · exact countsEach_of_cycle (fun _ => rfl) fun _ _ => Iff.rfl
  · exact countsEach_of_cycle (fun _ => rfl) fun _ _ => Iff.rfl
  · exact countsEach_of_cycle (fun _ => rfl) fun _ _ => Iff.rfl
  -- explicit uses of ESP after implicit ones, and additions
  · exact countsEach_of_found_eq (fun _ => rfl) rfl fun f h => by split; exacts [absurd rfl h, rfl]
  · exact countsEach_of_found_value (fun _ => rfl) (fun _ => rfl) (fun f h => by split; exacts [absurd rfl (h _), rfl])
      fun _ => Iff.rfl

/-! ## Branches executed (rules R300 to R314) -/

/-- A row that counts a taken branch prediction with a penalty where the free value goes one way (log entry 5). -/
theorem countsTakenBubbles {i : Instr} {c : State → Bool} {p : State → Prop} {w : State → Occ → Nat}
    (he : ∀ s, exec i s = countGp s fun x => s.onOcc x (w s)) (hit : ∀ s, w s .takenBubble = (c s).toNat)
    (miss : ∀ s o, o ≠ .takenBubble → w s o = 0) (h : ∀ s, c s = true ↔ p s) :
    CountsEach i fun s x m => m = .occ x .takenBubble ∧ p s := by
  simpa only [exists_const] using countsEach_of_occ_where (kind := fun _ : Unit => Occ.takenBubble) he
    (fun s _ => hit s) (fun s o ho => miss s o (ho ())) fun s _ => h s

/-- Settles O9: each row by the branches it selects, and the two bubble events by the free value. -/
theorem branchExecutedEventsCount : Obligations.BranchExecutedEventsCount := by
  refine ⟨?_, ?_, ?_, ?_, ?_, ?_, ?_, ?_, ?_, ?_, ?_, ?_, ?_, ?_, ?_⟩
  -- all branches
  · exact countsEach_of_onBranch (fun _ => rfl) fun _ _ => iff_true_intro rfl
  · exact countsEach_of_onBranch (fun _ => rfl) fun _ _ => Iff.rfl
  · exact countsEach_of_onBranch (fun _ => rfl) fun _ _ => Iff.rfl
  -- conditional and indirect branches
  · exact countsEach_of_onBranch (fun _ => rfl) fun _ _ => decide_eq_true_iff
  · exact countsEach_of_onBranch (fun _ => rfl) fun _ _ => by rw [Bool.and_eq_true, decide_eq_true_iff]
  · exact countsEach_of_onBranch (fun _ => rfl) fun _ _ => Iff.rfl
  · exact countsEach_of_onBranch (fun _ => rfl) fun _ _ => Bool.and_eq_true_iff
  -- RET instructions
  · exact countsEach_of_onBranch (fun _ => rfl) fun _ _ => decide_eq_true_iff
  · exact countsEach_of_onBranch (fun _ => rfl) fun _ _ => by rw [Bool.and_eq_true, decide_eq_true_iff]
  · exact countsEach_of_onBranch (fun _ => rfl) fun _ _ => by rw [Bool.and_eq_true, decide_eq_true_iff]
  -- CALL instructions
  · exact countsEach_of_onBranch (fun _ => rfl) fun _ _ => BranchKind.isCall_iff
  · exact countsEach_of_onBranch (fun _ => rfl) fun _ _ => by rw [Bool.and_eq_true, BranchKind.isCall_iff]
  · exact countsEach_of_onBranch (fun _ => rfl) fun _ _ => decide_eq_true_iff
  -- penalties of one cycle
  · exact countsTakenBubbles (fun _ => rfl) (fun _ => rfl) (fun s o h => by split; exacts [absurd rfl h, rfl])
      fun _ => Iff.rfl
  · exact countsTakenBubbles (fun _ => rfl) (fun _ => rfl) (fun s o h => by split; exacts [absurd rfl h, rfl])
      fun _ => iff_of_eq (Bool.not_eq_true' _)

end Sys2Proof.Machine
end

section
/-! What retires: micro-ops and instructions (O10), branches, SIMD instructions and loads (O11). -/

namespace Sys2Proof.Machine

/-! ## SIMD micro-ops, floating-point operations and pipeline restarts (rules R326 to R333, R339 and R347) -/

/-- A row that counts the executed SIMD micro-ops of which a condition holds. -/
theorem countsSimdUops {i : Instr} {c : SimdUop → Bool} {p : SimdUop → Prop} {w : Occ → Nat}
    (he : ∀ s, exec i s = countGp s fun x => s.onOcc x w) (hit : ∀ u, w (.simdUop u) = (c u).toNat)
    (miss : ∀ o, (∀ u, o ≠ .simdUop u) → w o = 0) (h : ∀ u, c u = true ↔ p u) :
    CountsEach i fun _ x m => ∃ u, m = .occ x (.simdUop u) ∧ p u := by
  simpa only [h] using countsEach_of_simdUop he hit miss

theorem X87Op.counted_iff {o : X87Op} : o.counted = true ↔
    o.computational = true ∧ o.loadOrStore = false ∧ o.causedTrapOrAssist = false := by
  simp [X87Op.counted, and_assoc]

theorem machineNukesMemOrder_counts : CountsEach .machineNukesMemOrder fun _ x m =>
    m = .found x (.nuke .memoryOrder) ∨ m = .found x (.nuke .disambiguation) := by
  refine countsEach_of_found (fun _ => rfl) (fun _ _ _ h => h.elim (fun e => ⟨_, e⟩) fun e => ⟨_, e⟩) fun s x f => ?_
  split
  · exact indicates_one (.inl rfl)
  · exact indicates_one (.inr rfl)
  · next horder hdisambiguation =>
    exact indicates_zero fun h => h.elim (fun e => horder (Moment.found.inj e).2) fun e =>
      hdisambiguation (Moment.found.inj e).2

/-! ## Retired instructions (rules R334 to R338, R348 to R354 and R357 to R368) -/

/-- A row that counts retired instructions by a condition on them, whichever way it is written. -/
theorem countsRetired_of_eq {i : Instr} {c p : RetiredInst → Bool}
    (he : ∀ s, exec i s = countGp s fun x => s.onRetired x c) (h : ∀ r, c r = p r) : CountsRetired i p := by
  obtain rfl : c = p := funext h
  exact countsRetired_of_onRetired he

/-- Settles O10: micro-ops and operations executed, pipeline restarts, then instructions and micro-ops retired. -/
theorem simdUopAndRetirementEventsCount : Obligations.SimdUopAndRetirementEventsCount := by
  refine ⟨?_, ?_, ?_, ?_, ?_, ?_, ?_, ?_, ?_, ?_, machineNukesMemOrder_counts, ?_, ?_, ?_, ?_, ?_, ?_, ?_, ?_, ?_, ?_, ?_⟩
  -- SIMD micro-ops: all but some stores, the saturated ones, and those of each type
  · exact countsSimdUops (fun _ => rfl) (fun _ => rfl) (fun o h => by split; exacts [absurd rfl (h _), rfl])
      fun u => iff_of_eq (Bool.not_eq_true' _)
  · exact countsSimdUops (fun _ => rfl) (fun _ => rfl) (fun o h => by split; exacts [absurd rfl (h _), rfl])
      fun u => Iff.rfl
  iterate 6
    exact countsSimdUops (fun _ => rfl) (fun _ => rfl) (fun o h => by split; exacts [absurd rfl (h _), rfl])
      fun u => List.contains_iff_mem
  -- floating-point operations, and code that modifies itself
  · exact countsEach_of_occ_where (fun _ => rfl) (fun _ _ => rfl)
      (fun s o h => by split; exacts [absurd rfl (h _), rfl]) fun s o => X87Op.counted_iff
  · exact countsEach_of_found_eq (fun _ => rfl) rfl fun f h => by split; exacts [absurd rfl h, rfl]
  -- instructions: all, those that load or store, those that do neither, and FXCH
  · exact countsRetired_of_onRetired fun _ => rfl
  · exact countsRetired_of_onRetired fun _ => rfl
  · exact countsRetired_of_onRetired fun _ => rfl
  · exact countsRetired_of_eq (fun _ => rfl) fun r => by rw [Bool.not_or, Option.not_isSome]
  · exact countsRetired_of_onRetired fun _ => rfl
  -- micro-ops by their fusion
  · exact countsEach_of_onUop (fun _ => rfl) fun u => by rw [Bool.or_eq_true, decide_eq_true_iff, decide_eq_true_iff]
  · exact countsEach_of_onUop (fun _ => rfl) fun u => decide_eq_true_iff
  · exact countsEach_of_onUop (fun _ => rfl) fun u => decide_eq_true_iff
  · exact countsEach_of_onUop (fun _ => rfl) fun u => Option.isSome_iff_ne_none
  · exact countsEach_of_onUop (fun _ => rfl) fun u => Option.isNone_iff_eq_none
  · exact countsEach_of_onUop (fun _ => rfl) fun u => iff_true_intro rfl

/-! ## Retired loads (rules R369 to R373) -/

/-- A load that was not blocked counts, and of one that was the free value says whether it does (log entry 5). -/
theorem countsBlocked_iff {s : State} {l : RetiredLoad} {q : OpenPoint} :
    s.countsBlocked l q = true ↔ (l.blocked = true → s.unstated q = true) := by
  rw [State.countsBlocked, Bool.or_eq_true, Bool.not_eq_true', ← Bool.not_eq_true, imp_iff_not_or]

/-- A row of MEM_LOAD_RETIRED counts the loads that cause it. -/
theorem countsRetiredLoads {i : Instr} {p : State → RetiredLoad → Prop}
    (he : ∀ s, exec i s = countGp s fun x => s.onRetiredLoad x i)
    (h : ∀ s l, s.loadCauses i l = true ↔ l.memType = .cacheable ∧ l.softwarePrefetch = false ∧ p s l) :
    CountsEach i fun s x m => ∃ l, m = .occ x (.loadRetired l) ∧ l.memType = .cacheable ∧
      l.softwarePrefetch = false ∧ p s l :=
  countsEach_of_indicates he fun s x => (indicates_onRetiredLoad s x i).congr (by simp only [h])

/-- Settles O11: interrupts and loads, the first uses of MMX and floating-point state, then what retires. -/
theorem branchSimdAndLoadRetiredCount : Obligations.BranchSimdAndLoadRetiredCount := by
  refine ⟨⟨?_, ?_, ?_, ?_, ?_, ?_, ?_, ?_, ?_, ?_, ?_⟩, ?_, ?_, ?_, ?_, ?_, ?_, ?_, ?_, ?_, ?_, ?_, ?_, ?_, ?_, ?_, ?_, ?_,
    ?_, ?_, ?_⟩
  -- interrupts that are disabled, pending, received
  · exact countsEach_of_cycle (fun _ => rfl) fun _ _ => Iff.rfl
  · exact countsEach_of_cycle (fun _ => rfl) fun _ _ => by rw [Bool.and_eq_true, decide_eq_true_iff]
  · exact countsEach_of_found_eq (fun _ => rfl) rfl fun f h => by split; exacts [absurd rfl h, rfl]
  -- loads that missed the L1 data cache, the L2 cache, the DTLB
  · exact countsRetiredLoads (fun _ => rfl) fun s l => by simp [State.loadCauses, and_assoc]
  · exact countsRetiredLoads (fun _ => rfl) fun s l => by simp [State.loadCauses, countsBlocked_iff, and_assoc]
  · exact countsRetiredLoads (fun _ => rfl) fun s l => by simp [State.loadCauses, and_assoc]
  · exact countsRetiredLoads (fun _ => rfl) fun s l => by simp [State.loadCauses, countsBlocked_iff, and_assoc]
  · exact countsRetiredLoads (fun _ => rfl) fun s l => by simp [State.loadCauses, and_assoc]
  -- first uses after the other kind, and assists
  · exact countsEach_of_found_value (fun _ => rfl) (fun _ => rfl) (fun f h => by split; exacts [absurd rfl (h _), rfl])
      fun _ => Iff.rfl
  · exact countsEach_of_found_value (fun _ => rfl) (fun _ => rfl) (fun f h => by split; exacts [absurd rfl (h _), rfl])
      fun _ => Iff.rfl
  · exact countsEach_of_found_eq (fun _ => rfl) rfl fun f h => by split; exacts [absurd rfl h, rfl]
  -- branches by their outcome
  iterate 7 exact countsRetired_of_eq (fun _ => rfl) fun r => by cases r.branch <;> rfl
  -- SIMD instructions of one class and of any, and instructions that missed the ITLB
  iterate 5 exact countsRetired_of_onRetired fun _ => rfl
  · exact countsRetired_of_eq (fun _ => rfl) fun r => by
      rw [Bool.eq_iff_iff, decide_eq_true_iff, Option.isSome_iff_ne_none]
  · exact countsRetired_of_onRetired fun _ => rfl
  -- computational instructions of one class
  iterate 4 exact countsRetired_of_eq (fun _ => rfl) fun r => by rw [Bool.decide_and, Bool.decide_eq_true]
  -- SIMD instructions, and those with saturated arithmetic
  · exact countsRetired_of_onRetired fun _ => rfl
  · exact countsRetired_of_onRetired fun _ => rfl

end Sys2Proof.Machine
end

section
/-! Stalls, decoded branches and prefetches (O12). -/

namespace Sys2Proof.Machine

/-! ## Segment registers and prefetches of the DPL (rules R384 to R387, R389 to R392, R403 and R404) -/

theorem segmentStalls_count {i : Instr} {r : SegReg} (he : ∀ s, exec i s = countGp s fun x => s.onFound x fun
    | .segmentStalled r' => (r' = r : Bool).toNat
    | _ => 0) : CountsEach i fun _ x m => m = .found x (.segmentStalled r) :=
  countsEach_of_found_value he (fun _ => rfl) (fun f h => by split; exacts [absurd rfl (h _), rfl])
    fun _ => decide_eq_true_iff

theorem segmentRenames_count {i : Instr} {r : SegReg} (he : ∀ s, exec i s = countGp s fun x => s.onFound x fun
    | .segmentRenamed r' => (r' = r : Bool).toNat
    | _ => 0) : CountsEach i fun _ x m => m = .found x (.segmentRenamed r) :=
  countsEach_of_found_value he (fun _ => rfl) (fun f h => by split; exacts [absurd rfl (h _), rfl])
    fun _ => decide_eq_true_iff

theorem dplPrefetches_count {i : Instr} {d : Direction} (he : ∀ s, exec i s = countGp s fun x => s.onFound x fun
    | .dplPrefetch d' => (d' = d : Bool).toNat
    | _ => 0) : CountsEach i fun _ x m => m = .found x (.dplPrefetch d) :=
  countsEach_of_found_value he (fun _ => rfl) (fun f h => by split; exacts [absurd rfl (h _), rfl])
    fun _ => decide_eq_true_iff

/-! ## Writes of the FPU status word (rule R382) -/

theorem ratStallsFpsw_counts : CountsNumber .ratStallsFpsw fun _ x m => if m = .found x .fpswWritten then 2 else 0 := by
  refine countsNumber_of_amount (fun _ => rfl) fun s x => ?_
  by_cases hm : s.now = .found x .fpswWritten
  · simp only [State.onFound, hm, if_pos]
  · rw [if_neg hm]
    unfold State.onFound
    split
    · next y f hf =>
      split
      · next hy =>
        beta_reduce
        split
        exacts [absurd (hy ▸ hf) hm, rfl]
      · rfl
    · rfl

/-! ## Resources (rules R394 to R396 and R399) -/

theorem loadStoreLimited_iff {s : State} {x : CoreId} : s.loadStoreLimited x = true ↔
    s.params.loadLimit ≤ (s.core x).inFlight.loads ∨ s.params.storeLimit ≤ (s.core x).inFlight.stores ∨
      (s.core x).fences ≠ [] := by
  simp [State.loadStoreLimited, or_assoc]

theorem resourceStalled_iff {s : State} {x : CoreId} : s.resourceStalled x = true ↔
    s.params.robLimit ≤ (s.core x).inFlight.retirement ∨ s.params.rsLimit ≤ (s.core x).inFlight.execution ∨
      s.params.loadLimit ≤ (s.core x).inFlight.loads ∨ s.params.storeLimit ≤ (s.core x).inFlight.stores ∨
      (s.core x).fences ≠ [] ∨ (s.core x).pipe.fpcwStall = true ∨ (s.core x).pipe.branchMissClear = true := by
  simp [State.resourceStalled, loadStoreLimited_iff, State.robFull, State.rsFull, or_assoc]

theorem ratStalled_iff {c : Core} : c.ratStalled = true ↔ c.pipe.robReadPortStall = true ∨
    c.pipe.partialRegisterStall = true ∨ c.pipe.flagStall = true ∨ c.fpswStalling = true := by
  simp [Core.ratStalled, or_assoc]

/-! ## Branches decoded and resteers (rules R400 to R402) -/

theorem brInstDecoded_counts : CountsEach .brInstDecoded fun _ x m => ∃ complex, m = .occ x (.decoded complex true) := by
  refine countsEach_of_occ (fun _ => rfl) (fun _ _ _ ⟨_, e⟩ => ⟨_, e⟩) fun s x o => ?_
  split
  · exact indicates_toNat (by simp [-Bool.exists_bool])
  · next hn => exact indicates_zero fun ⟨_, e⟩ => hn _ _ (Moment.occ.inj e).2

/-- A bogus branch results in a resteer. -/
theorem baclears_counts : CountsEach .baclears fun _ x m => m = .occ x .baclear ∨ m = .occ x .bogusBranch := by
  refine countsEach_of_occ (fun _ => rfl) (fun _ _ _ h => h.elim (fun e => ⟨_, e⟩) fun e => ⟨_, e⟩) fun s x o => ?_
  split
  · exact indicates_one (.inl rfl)
  · exact indicates_one (.inr rfl)
  · next hbaclear hbogus =>
    exact indicates_zero fun h => h.elim (fun e => hbaclear (Moment.occ.inj e).2) fun e => hbogus (Moment.occ.inj e).2

/-- Settles O12: cycles of the stalls by the condition each samples, and occurrences by what they are. -/
theorem stallAndFrontEndEventsCount : Obligations.StallAndFrontEndEventsCount := by
  refine ⟨?_, ?_, ?_, ratStallsFpsw_counts, ?_, ?_, ?_, ?_, ?_, ?_, ?_, ?_, ?_, ?_, ?_, ?_, ?_, ?_, ?_, ?_, ?_,
    brInstDecoded_counts, ?_, baclears_counts, ?_, ?_⟩
  -- stalls of the RAT
  · exact countsEach_of_cycle (fun _ => rfl) fun _ _ => Iff.rfl
  · exact countsEach_of_cycle (fun _ => rfl) fun _ _ => Iff.rfl
  · exact countsEach_of_cycle (fun _ => rfl) fun _ _ => Iff.rfl
  · exact countsEach_of_cycle (fun _ => rfl) fun _ _ => ratStalled_iff
  -- stalls for lack of renaming resources, of one segment register and of any
  iterate 4 exact segmentStalls_count fun _ => rfl
  · exact countsEach_of_found_kind (fun _ => rfl) (fun _ => rfl) fun f h => by split; exacts [absurd rfl (h _), rfl]
  -- renames of one segment register and of any
  iterate 4 exact segmentRenames_count fun _ => rfl
  · exact countsEach_of_found_kind (fun _ => rfl) (fun _ => rfl) fun f h => by split; exacts [absurd rfl (h _), rfl]
  -- resources that are exhausted
  · exact countsEach_of_cycle (fun _ => rfl) fun _ _ => decide_eq_true_iff
  · exact countsEach_of_cycle (fun _ => rfl) fun _ _ => decide_eq_true_iff
  · exact countsEach_of_cycle (fun _ => rfl) fun _ _ => loadStoreLimited_iff
  · exact countsEach_of_cycle (fun _ => rfl) fun _ _ => Iff.rfl
  · exact countsEach_of_cycle (fun _ => rfl) fun _ _ => Iff.rfl
  · exact countsEach_of_cycle (fun _ => rfl) fun _ _ => resourceStalled_iff
  -- bogus branches, and prefetches of either direction
  · exact countsEach_of_occ_eq (fun _ => rfl) rfl fun o h => by split; exacts [absurd rfl h, rfl]
  · exact dplPrefetches_count fun _ => rfl
  · exact dplPrefetches_count fun _ => rfl

end Sys2Proof.Machine
end
